-- ==== Sys2Proof/Word.lean ====
section
/-! DEFINITION. The words of the machine: bytes, sixteen-bit fields and counters, colours and picture words. -/

namespace Sys2Proof

/-- One byte of a packet, a table entry, a reply or picture memory. -/
abbrev Byte := BitVec 8

/-- A sixteen-bit quantity: every counter, the CRC register, the generation number, most table fields. -/
abbrev Word16 := BitVec 16

/-- A colour: red, green and blue, each 0 to 255 (chapter 00, Conventions). -/
structure Rgb where
  red : Byte
  green : Byte
  blue : Byte
  deriving DecidableEq, Repr

/-- A word of picture memory: red, green, blue and alpha (R138). -/
structure Rgba where
  red : Byte
  green : Byte
  blue : Byte
  alpha : Byte
  deriving DecidableEq, Repr

/-- Black, the colour of every colour field after reset. -/
def Rgb.black : Rgb := ⟨0, 0, 0⟩

end Sys2Proof
end

