-- ==== Sys2Proof/Syntax.lean ====
section
/-! DEFINITION. The commands of the part: one constructor for each row of spec/opcode_table.json, with the row's
operands. The table gives no row any bits; the operands are what the rule of the row reads. -/

namespace Sys2Proof

/-- The nineteen packet kinds of the dispatch table (R13). -/
inductive PacketKind where
  | select | write | query
  | stage | sealBatch | discardOpen | dropSealed | hold | release | statusNow
  | setTime | groupRestart
  | loadOpen | loadData | loadEnd | loadAbort
  | setNode | clearCounters | softReset
  deriving DecidableEq, Repr

/-- The kind code of each kind (R13, dispatch table). -/
def PacketKind.code : PacketKind → Byte
  | .select => 0x01
  | .write => 0x02
  | .query => 0x03
  | .stage => 0x10
  | .sealBatch => 0x11
  | .discardOpen => 0x12
  | .dropSealed => 0x13
  | .hold => 0x14
  | .release => 0x15
  | .statusNow => 0x16
  | .setTime => 0x20
  | .groupRestart => 0x21
  | .loadOpen => 0x30
  | .loadData => 0x31
  | .loadEnd => 0x32
  | .loadAbort => 0x33
  | .setNode => 0x40
  | .clearCounters => 0x41
  | .softReset => 0x42

/-- The nineteen kinds in the order of the dispatch table. -/
def PacketKind.all : List PacketKind :=
  [.select, .write, .query, .stage, .sealBatch, .discardOpen, .dropSealed, .hold, .release, .statusNow,
   .setTime, .groupRestart, .loadOpen, .loadData, .loadEnd, .loadAbort, .setNode, .clearCounters, .softReset]

/-- The two load channels, A with number 0 and B with number 1 (R143). -/
inductive LoadChannel where
  | a | b
  deriving DecidableEq, Repr

/-- What the memory interface's check finds when a burst is read (R139): nothing wrong, one bit in error, or more. -/
inductive ReadCheck where
  | clean | oneBit | manyBits
  deriving DecidableEq, Repr

/-- The commands, one for each row of spec/opcode_table.json, in the table's order.

A packet row is the arrival of an accepted packet of that kind at its owner (R13): its operand is the payload, with a
mark for destination 15 where the owner's rule reads it. -/
inductive Instr where
  /-- POWER_ON: the supply rises, with the number on the three strap pins. -/
  | powerOn (straps : Fin 8)
  /-- BOARD_RESET: the RESET input is asserted, with the number on the three strap pins. -/
  | boardReset (straps : Fin 8)
  /-- RESET_COMPLETE: power-on or board reset completes. -/
  | resetComplete
  /-- CARRIER_LINE: one blanking line of the input, with the pixels it delivers under data-enable. -/
  | carrierLine (pixels : List Rgb)
  /-- FIRST_ACTIVE_LINE: the first active line of the input frame, with its number of data-enable pixels. -/
  | firstActiveLine (width : Nat)
  /-- BAD_KIND: an accepted packet whose kind code is none of the nineteen. -/
  | badKind (kind : Byte)
  /-- SELECT, kind 0x01. -/
  | select (payload : List Byte)
  /-- WRITE, kind 0x02. -/
  | write (payload : List Byte)
  /-- QUERY_STATUS: a QUERY, kind 0x03, whose payload does not begin with type 1 (READ). -/
  | queryStatus (broadcast : Bool) (payload : List Byte)
  /-- QUERY_READ: a QUERY, kind 0x03, whose payload begins with type 1 (READ). -/
  | queryRead (broadcast : Bool) (payload : List Byte)
  /-- STAGE, kind 0x10. -/
  | stage (payload : List Byte)
  /-- SEAL, kind 0x11. -/
  | sealBatch (payload : List Byte)
  /-- DISCARD_OPEN, kind 0x12. -/
  | discardOpen (payload : List Byte)
  /-- DROP_SEALED, kind 0x13. -/
  | dropSealed (payload : List Byte)
  /-- HOLD, kind 0x14. -/
  | hold (payload : List Byte)
  /-- RELEASE, kind 0x15. -/
  | release (payload : List Byte)
  /-- STATUS_NOW, kind 0x16. -/
  | statusNow (payload : List Byte)
  /-- SET_TIME, kind 0x20. -/
  | setTime (payload : List Byte)
  /-- GROUP_RESTART, kind 0x21. -/
  | groupRestart (payload : List Byte)
  /-- LOAD_OPEN, kind 0x30. -/
  | loadOpen (payload : List Byte)
  /-- LOAD_DATA, kind 0x31. -/
  | loadData (payload : List Byte)
  /-- LOAD_END, kind 0x32. -/
  | loadEnd (payload : List Byte)
  /-- LOAD_ABORT, kind 0x33. -/
  | loadAbort (payload : List Byte)
  /-- SET_NODE, kind 0x40. -/
  | setNode (broadcast : Bool) (payload : List Byte)
  /-- CLEAR_COUNTERS, kind 0x41. -/
  | clearCounters (payload : List Byte)
  /-- SOFT_RESET, kind 0x42. -/
  | softReset (payload : List Byte)
  /-- INPUT_FRAME_START: vertical sync becomes asserted. `furtherLines` is how many active lines the frame that ends
  here delivered after its first. `waitLines`, how many lines of a handover wait the sender takes to have passed, is not
  read: the timing unit counts them itself (R29, R31). -/
  | inputFrameStart (furtherLines waitLines : Nat)
  /-- INPUT_TIMEOUT: the input timeout's deadline passes. -/
  | inputTimeout
  /-- GENERATOR_FRAME_END: the period of a generator frame runs out. -/
  | generatorFrameEnd
  /-- GROUP_STEP: the dwell count of an independent group reaches its dwell. -/
  | groupStep (group : Fin 16)
  /-- STALL_ABORT: the stall count of an OPEN channel reaches 120. -/
  | stallAbort (channel : LoadChannel)
  /-- COMPLETION_EVENT: the end of the frame's tenth line. -/
  | completionEvent
  /-- LINE_OUTPUT_START: the next canvas line of the output frame begins, with the pixels of the input's active line. -/
  | lineOutputStart (input : List Rgb)
  /-- LINE_FETCH_COMPLETE: the last entry of the fetch list has been read. -/
  | lineFetchComplete
  /-- GRANT: the free port is granted, with what the check finds if the grant reads a burst. -/
  | grant (check : ReadCheck)
  /-- WINDOW_CLOSE: the sixteenth grant of a window. -/
  | windowClose
  /-- DRAIN_END: the buffer of an ENDING channel is empty. -/
  | drainEnd (channel : LoadChannel)
  /-- REPLY_START: the port's further readings of the status line (true for high), one for each bit time, which bring the
  quiet count to 20. -/
  | replyStart (readings : List Bool)
  /-- REPLY_TIMEOUT: the wait deadline passes. -/
  | replyTimeout
  /-- COLLISION: the line reads low in the bit being sent. -/
  | collision
  /-- REPLY_END: the last stop bit of the reply is sent. -/
  | replyEnd
  /-- CLOCK_ADVANCE: the reference oscillator runs on for so many microseconds. -/
  | clockAdvance (micros : Nat)
  deriving DecidableEq, Repr

end Sys2Proof
end

