-- ==== Sys2Proof/Decode.lean ====
section
/-! DEFINITION. Commands as words of the opcode table. -/

namespace Sys2Proof

/-- The command that a word spells by the bits of spec/opcode_table.json. The table gives bits to no row ("fields": []
in all 42), so no word spells a command. -/
def decodeTableWord (_nbits _w : Nat) : Option Instr := none

end Sys2Proof
end

