-- ==== Sys2Proof/Config.lean ====
section
/-! DEFINITION. What the spec leaves to the world outside the part: free values, each a constant without a body, so
that every theorem holds whatever they are. -/

namespace Sys2Proof.Config

/-- FREE VALUE (log entry 11). What picture memory holds at a byte address that no burst write has reached since the
given power-on: "whatever the memory device holds" (R138). The first argument counts power-ons, the second is the
byte address. -/
opaque powerOnByte : Nat → Nat → Byte

/-- FREE VALUE (log entry 13). How many pixels of the canvas line in output had been composed when a soft reset emptied
the line stores: "the rest of the line then in output" shows fill (R169, R181). The argument is a fresh number. -/
opaque cutColumn : Nat → Nat

end Sys2Proof.Config
end

