-- ==== Sys2Proof/Machine/State.lean ====
section
/-! DEFINITION. Everything the part holds, block by block as the manual's block diagram has it (chapter 00), and the
part right after power-on. -/

namespace Sys2Proof.Machine

/-! ## Indexed contents -/

/-- The contents of a table whose unlisted indexes hold `d`: the entries that differ from `d`, by rising index. -/
structure Table {α : Type} (d : α) where
  cells : List (Nat × α)
  deriving DecidableEq, Repr

/-- The table that holds `d` everywhere. -/
def Table.empty {α : Type} {d : α} : Table d := ⟨[]⟩

/-! ## Setup tables (chapter 03) -/

/-- A CANVAS entry (R43). -/
structure CanvasEntry where
  width : Word16
  height : Word16
  plate : Rgb
  loadShare : Byte
  nominalPeriod : Word16
  deriving DecidableEq, Repr

/-- The CANVAS entry after power-on and board reset (R43). -/
def CanvasEntry.initial : CanvasEntry := ⟨1920, 1080, Rgb.black, 4, 16667⟩

/-- A HEADS entry (R44); `x` and `y` are two's complement. -/
structure HeadEntry where
  enabled : Bool
  x : Word16
  y : Word16
  w : Word16
  h : Word16
  blank : Rgb
  deriving DecidableEq, Repr

/-- HEADS entries 1 to 3 after power-on and board reset (R44). -/
def HeadEntry.initial : HeadEntry := ⟨false, 0, 0, 1920, 1080, Rgb.black⟩

/-- HEADS entry 0 after power-on and board reset (R44). -/
def HeadEntry.initialZero : HeadEntry := { HeadEntry.initial with enabled := true }

/-- Horizontal placement of a run in its price box (R45). -/
inductive Alignment where
  | left | center | right
  deriving DecidableEq, Repr

/-- How a slot shows a SOLD_OUT item (R45). -/
inductive Treatment where
  | none | dim | grey | altTile
  deriving DecidableEq, Repr

/-- A SLOTS entry (R45); `x` and `y` are two's complement. -/
structure SlotEntry where
  x : Word16
  y : Word16
  w : Word16
  h : Word16
  tx : Word16
  ty : Word16
  px : Word16
  py : Word16
  pw : Word16
  ph : Word16
  font : Fin 4
  format : Fin 8
  alignment : Alignment
  treatment : Treatment
  dayparts : Byte
  priceColour : Rgb
  fillColour : Rgb
  fillAlpha : Byte
  d : Byte
  deriving DecidableEq, Repr

/-- Every SLOTS entry after power-on and board reset (R45): every field 0. -/
def SlotEntry.initial : SlotEntry :=
  ⟨0, 0, 0, 0, 0, 0, 0, 0, 0, 0, 0, 0, .left, .none, 0, Rgb.black, Rgb.black, 0, 0⟩

/-- Where a format puts the currency sign (R46). -/
inductive Currency where
  | none | before | after
  deriving DecidableEq, Repr

/-- A format's tax mode (R46). -/
inductive TaxMode where
  | exclusive | inclusive
  deriving DecidableEq, Repr

/-- A format's display rounding (R46). -/
inductive Rounding where
  | exact | nearest | up | charm
  deriving DecidableEq, Repr

/-- A format's granularity: 1, 5, 10, 50 or 100 (R46). -/
inductive Granularity where
  | g1 | g5 | g10 | g50 | g100
  deriving DecidableEq, Repr

/-- A format's decimals: 0 or 2 (R46). -/
inductive Decimals where
  | zero | two
  deriving DecidableEq, Repr

/-- A FORMATS entry (R46). -/
structure FormatEntry where
  decimals : Decimals
  currency : Currency
  taxMode : TaxMode
  rate : Fin 5001
  rounding : Rounding
  granularity : Granularity
  raised : Bool
  dropZeroFraction : Bool
  zeroMark : Bool
  deriving DecidableEq, Repr

/-- Every FORMATS entry after power-on and board reset (R46). -/
def FormatEntry.initial : FormatEntry := ⟨.two, .before, .exclusive, 0, .exact, .g1, false, false, false⟩

/-- The metric of one glyph (R47). -/
structure Metric where
  present : Bool
  width : Byte
  advance : Byte
  deriving DecidableEq, Repr

/-- Every glyph's metric after power-on and board reset (R47). -/
def Metric.initial : Metric := ⟨false, 1, 1⟩

/-- Every font's height after power-on and board reset (R47). -/
def initialFontHeight : Byte := 8

/-- A SCHEDULE entry (R49). -/
structure ScheduleEntry where
  enabled : Bool
  start : Fin 1440
  book : Fin 4
  deriving DecidableEq, Repr

/-- Every SCHEDULE entry after power-on and board reset (R49). -/
def ScheduleEntry.initial : ScheduleEntry := ⟨false, 0, 0⟩

/-- A rotation group's mode (R50). -/
inductive GroupMode where
  | repeating | oneShot
  deriving DecidableEq, Repr

/-- A GROUPS entry (R50): all eight members are stored, the first `count` of them are the group's. -/
structure GroupEntry where
  members : Vector (Fin 1024) 8
  count : Nat
  dwell : Word16
  mode : GroupMode
  skipUnavailable : Bool
  leader : Option (Fin 16)
  deriving DecidableEq, Repr

/-- Every GROUPS entry after power-on and board reset (R50). -/
def GroupEntry.initial : GroupEntry := ⟨#v[0, 0, 0, 0, 0, 0, 0, 0], 1, 300, .repeating, false, none⟩

/-- A tile's key mode (R51): OPAQUE or ALPHA. -/
inductive KeyMode where
  | solid | alpha
  deriving DecidableEq, Repr

/-- A TILES entry (R51). -/
structure TileEntry where
  base : BitVec 32
  width : Word16
  height : Word16
  keyMode : KeyMode
  deriving DecidableEq, Repr

/-- Every TILES entry after power-on (R51). -/
def TileEntry.initial : TileEntry := ⟨0, 1, 1, .solid⟩

/-- The tables the Table Loader answers to (R36). -/
inductive TableId where
  | canvas | heads | slots | formats | fontMetrics
  | glyphs (font : Fin 4)
  | schedule | groups | tiles
  | items
  | book (n : Fin 4)
  | bindings | render | groupState
  deriving DecidableEq, Repr

/-- Where the select cursor stands: a table and an index of it (R37). -/
structure Cursor where
  table : TableId
  index : Nat
  deriving DecidableEq, Repr

/-- The Table Loader (chapter 03). FONT_METRICS is held as the four font heights and the metrics, glyph code `c` of
font `f` at `f * 25 + c`; the glyph masks as bytes, byte `o` of font `f` at `f * 76800 + o`. -/
structure Setup where
  cursor : Option Cursor
  canvas : CanvasEntry
  heads : Table HeadEntry.initial
  slots : Table SlotEntry.initial
  formats : Table FormatEntry.initial
  fontHeights : Table initialFontHeight
  metrics : Table Metric.initial
  glyphs : Table (0 : Byte)
  schedule : Table ScheduleEntry.initial
  groups : Table GroupEntry.initial
  tiles : Table TileEntry.initial
  deriving DecidableEq, Repr

/-! ## Carrier Receiver (chapter 01) -/

/-- Where the receiver stands in the packet it is reading. -/
inductive Assembly where
  | hunt | header | payload | check
  deriving DecidableEq, Repr

/-- The refusals, codes 1 to 15 (R14). -/
inductive RefusalCode where
  | badKind | badLength | badField | notOpen | stagedOnly | tableEnd | inUse | poolFull
  | queueFull | emptyBatch | channelBusy | outOfOrder | bufferFull | replyBusy | broadcastQuery
  deriving DecidableEq, Repr

/-- The Carrier Receiver. `interval` says whether an input vertical blanking interval is in progress (R1). -/
structure Receiver where
  interval : Bool
  assembly : Assembly
  buffer : List Byte
  declared : Option Nat
  check : Word16
  received : List Byte
  symbolErrors : Word16
  aborted : Word16
  truncated : Word16
  overlength : Word16
  badCheck : Word16
  accepted : Word16
  refusals : Word16
  lastRefusal : Option (RefusalCode × Byte)
  deriving DecidableEq, Repr

/-! ## Timing unit (chapter 02) -/

/-- Whether the input is present and can be followed. -/
inductive LockState where
  | noInput | acquiring | locked | mismatch | holdover
  deriving DecidableEq, Repr

/-- What times the output frame in progress. -/
inductive TimingSource where
  | generator | awaitingInput | input
  deriving DecidableEq, Repr

/-- A complete measurement of an input frame (R19); the period is in microseconds. -/
structure Measurement where
  activeWidth : Nat
  activeLines : Nat
  blankingLines : Nat
  period : Nat
  deriving DecidableEq, Repr

/-- The counts of the input frame now being measured (R19), and when it began. -/
structure InProgress where
  startedAt : Nat
  activeWidth : Nat
  activeLines : Nat
  blankingLines : Nat
  deriving DecidableEq, Repr

/-- What the generator took at the boundary of a frame it times (R27): its period and its active lines. -/
structure GeneratorFrame where
  period : Nat
  activeLines : Nat
  deriving DecidableEq, Repr

/-- The timing unit. `inReset` holds from power-on or board reset until the reset completes (R35); `frameStart` is the
boundary at which the output frame in progress began; `blankingPassed` counts the blanking lines of an input-timed
output frame (R31). -/
structure Timing where
  inReset : Bool
  lock : LockState
  measurements : List Measurement
  current : Option InProgress
  source : TimingSource
  generatorPeriod : Option Nat
  timeout : Option Nat
  frameStart : Nat
  generatorFrame : Option GeneratorFrame
  blankingPassed : Nat
  deriving DecidableEq, Repr

/-! ## Live price state (chapter 04) -/

/-- An item's status (R60). -/
inductive Status where
  | available | soldOut | hidden
  deriving DecidableEq, Repr

/-- A price, a discount amount or a fixed price: 0 to 99999 minor units. -/
abbrev Price := Fin 100000

/-- An item's modifier (R61). -/
inductive Modifier where
  | none
  | percentOff (tenths : Fin 1001)
  | amountOff (amount : Price)
  | fixed (price : Price)
  deriving DecidableEq, Repr

/-- An item record (R60 to R62). -/
structure Item where
  status : Status
  modifier : Modifier
  tile : Option Byte
  soldOutTile : Option Byte
  deriving DecidableEq, Repr

/-- Every item record after power-on and board reset (R73). -/
def Item.initial : Item := ⟨.hidden, .none, none, none⟩

/-- NO_PRICE, every book entry after power-on and board reset (R63, R73). -/
def noPrice : Option Price := none

/-- A binding's source (R65). -/
inductive Source where
  | none
  | item (n : Fin 1024)
  | group (g : Fin 16)
  deriving DecidableEq, Repr

/-- A binding's tile choice (R65). -/
inductive TileChoice where
  | itemTile
  | fixed (t : Byte)
  | noTile
  deriving DecidableEq, Repr

/-- A slot binding (R65). -/
structure Binding where
  active : Bool
  source : Source
  tileChoice : TileChoice
  deriving DecidableEq, Repr

/-- Every binding after power-on and board reset (R73). -/
def Binding.initial : Binding := ⟨false, .none, .noTile⟩

/-- The live price state (R58) with the live book of the current frame (R64). Entry `i` of book `b` stands at index
`b * 1024 + i` of `books`. -/
structure Live where
  items : Table Item.initial
  books : Table noPrice
  bindings : Table Binding.initial
  generation : Word16
  liveBook : Fin 4
  deriving DecidableEq, Repr

/-! ## Change Stager (chapter 05) -/

/-- A change record (R75 to R78). -/
inductive Change where
  | price (book : Fin 4) (item : Fin 1024) (entry : Option Price)
  | item (item : Fin 1024) (record : Item)
  | bind (slot : Fin 96) (binding : Binding)
  deriving DecidableEq, Repr

/-- A sealed batch (R82): its records in order and its apply tag, `none` for NOW. -/
structure Batch where
  records : List Change
  tag : Option Nat
  deriving DecidableEq, Repr

/-- The Change Stager's staging state. The pool of 128 records is the records standing in `openBatch` and `sealed`; the
rest are free (R74). -/
structure Stager where
  openBatch : List Change
  sealed : List Batch
  immediate : List (Fin 1024 × Status)
  hold : Bool
  deriving DecidableEq, Repr

/-! ## Time Base (chapter 06) -/

/-- A group's runtime record (R105). -/
structure GroupRun where
  index : Nat
  count : Nat
  stopped : Bool
  pending : Bool
  badLeader : Bool
  deriving DecidableEq, Repr

/-- Every runtime record after power-on and board reset (R116). -/
def GroupRun.initial : GroupRun := ⟨0, 0, false, true, false⟩

/-- The Time Base: clock state and clock, boundary reading, daypart in effect, group runtime records. -/
structure TimeBase where
  clockSet : Bool
  seconds : Nat
  micros : Nat
  reading : Option Nat
  daypart : Option (Fin 8)
  runs : Table GroupRun.initial
  deriving DecidableEq, Repr

/-! ## Price Engine (chapter 07) -/

/-- The treatment applied in a render record (R70). -/
inductive Applied where
  | none
  | dim (d : Byte)
  | grey
  | altTile
  deriving DecidableEq, Repr

/-- The flags of a render record (R135). -/
structure RenderFlags where
  saturated : Bool
  currencyDropped : Bool
  overflow : Bool
  noPrice : Bool
  soldOut : Bool
  glyphMissing : Bool
  noFit : Bool
  deriving DecidableEq, Repr

/-- Every flag clear. -/
def RenderFlags.clear : RenderFlags := ⟨false, false, false, false, false, false, false⟩

/-- A render record (chapter 07). -/
structure RenderRecord where
  visible : Bool
  item : Option (Fin 1024)
  tile : Option Byte
  applied : Applied
  generation : Word16
  display : Nat
  run : List Nat
  xOffset : Nat
  yOffset : Nat
  flags : RenderFlags
  deriving DecidableEq, Repr

/-- The invisible record with generation 0, which every record is after power-on and board reset (R137). -/
def RenderRecord.initial : RenderRecord := ⟨false, none, none, .none, 0, 0, [], 0, 0, RenderFlags.clear⟩

/-- Item 0, the entry of an unlisted group in `Snapshot.members`. -/
def itemZero : Fin 1024 := 0

/-- The Price Engine's snapshot (R118). `members` holds the current member of each group for the boundary. -/
structure Snapshot where
  live : Live
  daypart : Option (Fin 8)
  members : Table itemZero
  slots : Table SlotEntry.initial
  formats : Table FormatEntry.initial
  fontHeights : Table initialFontHeight
  metrics : Table Metric.initial
  deriving DecidableEq, Repr

/-- The Price Engine. -/
structure Engine where
  snapshot : Option Snapshot
  computing : Bool
  frame : Table RenderRecord.initial
  published : Table RenderRecord.initial
  deriving DecidableEq, Repr

/-! ## Picture Loader and picture memory (chapter 08) -/

/-- A tile's state (R140). -/
inductive TileState where
  | empty | loading | ready | faulted
  deriving DecidableEq, Repr

/-- A tile directory record (R140). -/
structure TileRecord where
  state : TileState
  validRows : Nat
  deriving DecidableEq, Repr

/-- The record of an EMPTY tile. -/
def TileRecord.initial : TileRecord := ⟨.empty, 0⟩

/-- The state of a load channel (R143). -/
inductive ChannelState where
  | idle | opened | ending
  deriving DecidableEq, Repr

/-- A source format (R148). -/
inductive SourceFormat where
  | rgb888 | rgba8888 | rgb565
  deriving DecidableEq, Repr

/-- A pixel word waiting in a write buffer, with the byte address it goes to (R143). -/
structure BufferedWord where
  address : Nat
  word : Rgba
  deriving DecidableEq, Repr

/-- A load channel (R143). -/
structure Channel where
  state : ChannelState
  tile : Byte
  format : SourceFormat
  byteCount : Nat
  received : Nat
  holding : List Byte
  buffer : List BufferedWord
  stall : Nat
  endRows : Option Nat
  deriving DecidableEq, Repr

/-- A channel after power-on (R156; source format and byte count: log entry 15). -/
def Channel.initial : Channel := ⟨.idle, 0, .rgb888, 0, 0, [], [], 0, none⟩

/-- The Picture Loader. -/
structure Pictures where
  directory : Table TileRecord.initial
  channelA : Channel
  channelB : Channel
  stalls : Word16
  surplus : Word16
  deriving DecidableEq, Repr

/-- No one-bit error is known in a burst. -/
def unmarked : Bool := false

/-- Picture memory (R138, R139): the bytes written since power-on, by rising address; the bursts, by number, in which a
read has found one bit in error and which have not been written since (R164); and how many power-ons there have been,
which names the contents of the bytes not written since. -/
structure PictureMemory where
  cells : List Host.Cell
  oneBitBursts : Table unmarked
  powerOns : Nat
  deriving DecidableEq, Repr

/-! ## Fetch Unit and Memory Arbiter (chapter 09) -/

/-- An entry of a fetch list (R159): the slot, its tile, the tile row, the span of tile columns and the canvas column
of its first, the bytes of the span (`first` up to, not including, `past`), and the number of the next burst to read. -/
structure FetchEntry where
  slot : Nat
  tile : Byte
  row : Nat
  firstColumn : Nat
  lastColumn : Nat
  canvasColumn : Int
  first : Nat
  past : Nat
  nextBurst : Nat
  deriving DecidableEq, Repr

/-- What a line store holds for one entry of its line's list: the slot, the canvas column of the span's first pixel,
the words read so far from there on, and the complete mark. -/
structure StoreEntry where
  slot : Nat
  canvasColumn : Int
  words : List Rgba
  complete : Bool
  deriving DecidableEq, Repr

/-- Not READY in the tile latch. -/
def notReady : Option Nat := none

/-- The Fetch Unit: the tile latch (valid rows of a tile latched READY), the geometry latch, the fetch list of the line
being fetched and what of it is still to be read, the fetch state, the line store being filled and the one in output,
and the four counters. -/
structure Fetch where
  tileLatch : Table notReady
  width : Nat
  height : Nat
  slots : Table SlotEntry.initial
  list : List FetchEntry
  todo : List FetchEntry
  fetching : Bool
  filling : List StoreEntry
  output : List StoreEntry
  underruns : Word16
  oversubscribed : Word16
  corrected : Word16
  uncorrectable : Word16
  deriving DecidableEq, Repr

/-- The Memory Arbiter's window: grants so far, channel grants so far, and the window's load share. With `grants` 0 no
window is open and the next grant begins one (R167). -/
structure Arbiter where
  grants : Nat
  channelGrants : Nat
  share : Nat
  deriving DecidableEq, Repr

/-! ## Compositor (chapter 10) -/

/-- The Compositor's latch of the current frame (R170): frame lock state, canvas, heads and slots. The frame lock state
stands and goes with the latch (log entry 33). -/
structure FrameLatch where
  lock : LockState
  width : Nat
  height : Nat
  plate : Rgb
  heads : Table HeadEntry.initial
  slots : Table SlotEntry.initial
  deriving DecidableEq, Repr

/-- The Compositor: its latch, the blanked mark, the canvas lines of the current frame so far (line 0 first; composed, or,
in a blanked frame, passed with no pixel composed), and the input pixels of the line in output. -/
structure Compositor where
  latch : Option FrameLatch
  blanked : Bool
  lines : List (List Rgb)
  inputLine : List Rgb
  deriving DecidableEq, Repr

/-! ## Status Line Port (chapter 11) -/

/-- What a reply will carry: the STATUS payload, or the entries of a table that the READ fixed at its acceptance (R41);
`none` for the table when the READ found no cursor. -/
inductive ReplyContent where
  | status
  | read (table : Option TableId) (first : Nat) (count : Nat)
  deriving DecidableEq, Repr

/-- The reply state with the reply in flight (chapter 11). WAITING holds the reply node, the content, the wait deadline,
the quiet count and the time of the last reading of the line, at first that of the acceptance (R184); SENDING holds the
frame's bytes and when its first bit began. -/
inductive Reply where
  | idle
  | waiting (node : Fin 8) (content : ReplyContent) (deadline : Nat) (quiet : Nat) (readAt : Nat)
  | sending (frame : List Byte) (startedAt : Nat)
  deriving DecidableEq, Repr

/-- The Status Line Port. -/
structure Port where
  node : Fin 8
  reply : Reply
  collisions : Word16
  replyTimeouts : Word16
  deriving DecidableEq, Repr

/-! ## The part -/

/-- The part. `now` counts the microseconds of the reference oscillator (log entry 4), `fresh` numbers the free values
drawn (log entry 13); both are the model's own fields. `pending` is the queue of commands that wait. -/
structure State where
  now : Nat
  fresh : Nat
  receiver : Receiver
  timing : Timing
  setup : Setup
  live : Live
  stager : Stager
  timeBase : TimeBase
  engine : Engine
  pictures : Pictures
  memory : PictureMemory
  fetch : Fetch
  arbiter : Arbiter
  compositor : Compositor
  port : Port
  pending : List Instr
  deriving DecidableEq, Repr

/-- Why a command can stop the model. -/
inductive Fault where
  /-- Raised by GRANT: the burst to be read or written lies outside picture memory, which ends at 268,435,455 (R138).
  SAFE: no such access exists, and R144 keeps every load and so every READY tile inside the memory. -/
  | pictureAddress (address : Nat)
  deriving DecidableEq, Repr

/-- Why a command can have no meaning. -/
inductive Refusal where
  /-- Raised by an arm of `exec` that has no meaning yet. SAFE: nothing is claimed of the command. -/
  | notModelled (mnemonic : String)
  deriving DecidableEq, Repr

/-- The Table Loader after power-on (R53). -/
def Setup.initial : Setup where
  cursor := none
  canvas := CanvasEntry.initial
  heads := ⟨[(0, HeadEntry.initialZero)]⟩
  slots := .empty
  formats := .empty
  fontHeights := .empty
  metrics := .empty
  glyphs := .empty
  schedule := .empty
  groups := .empty
  tiles := .empty

/-- The Carrier Receiver after power-on (R17, R1; declared length and check registers: log entry 10). -/
def Receiver.initial : Receiver where
  interval := false
  assembly := .hunt
  buffer := []
  declared := none
  check := 0xFFFF
  received := []
  symbolErrors := 0
  aborted := 0
  truncated := 0
  overlength := 0
  badCheck := 0
  accepted := 0
  refusals := 0
  lastRefusal := none

/-- The timing unit after power-on (R35), the reset not yet complete (the frame's start, its generator frame and its
blanking lines, set at the first boundary: log entries 4, 33). -/
def Timing.initial : Timing where
  inReset := true
  lock := .noInput
  measurements := []
  current := none
  source := .generator
  generatorPeriod := none
  timeout := none
  frameStart := 0
  generatorFrame := none
  blankingPassed := 0

/-- The live price state after power-on (R73). -/
def Live.initial : Live where
  items := .empty
  books := .empty
  bindings := .empty
  generation := 0
  liveBook := 0

/-- The staging state after each of the three resets (R97). -/
def Stager.initial : Stager := ⟨[], [], [], false⟩

/-- The Time Base after power-on (R116). -/
def TimeBase.initial : TimeBase := ⟨false, 0, 0, none, none, .empty⟩

/-- The Price Engine after power-on (R137). -/
def Engine.initial : Engine := ⟨none, false, .empty, .empty⟩

/-- The Picture Loader after power-on (R156). -/
def Pictures.initial : Pictures := ⟨.empty, Channel.initial, Channel.initial, 0, 0⟩

/-- Picture memory when the part is first powered: nothing written yet (R138). -/
def PictureMemory.initial : PictureMemory := ⟨[], .empty, 0⟩

/-- The Fetch Unit after power-on (R169; the geometry latch, taken at the first boundary: log entry 29). -/
def Fetch.initial : Fetch where
  tileLatch := .empty
  width := 0
  height := 0
  slots := .empty
  list := []
  todo := []
  fetching := false
  filling := []
  output := []
  underruns := 0
  oversubscribed := 0
  corrected := 0
  uncorrectable := 0

/-- The arbiter's window after each of the three resets (R169; the load share, read at the next grant: log entry 16). -/
def Arbiter.initial : Arbiter := ⟨0, 0, 0⟩

/-- The Compositor after power-on and board reset: no latch (R181), and with it no frame lock state, for which R181 gives
no value there and the model's choice is none (log entry 33). -/
def Compositor.initial : Compositor := ⟨none, false, [], []⟩

/-- The Status Line Port after power-on with its straps read as `straps` (R182, R189). -/
def Port.initial (straps : Fin 8) : Port := ⟨straps, .idle, 0, 0⟩

/-- The part right after power-on, its straps read as 0 (log entry 3), the reset not yet complete. -/
def State.reset : State where
  now := 0
  fresh := 0
  receiver := Receiver.initial
  timing := Timing.initial
  setup := Setup.initial
  live := Live.initial
  stager := Stager.initial
  timeBase := TimeBase.initial
  engine := Engine.initial
  pictures := Pictures.initial
  memory := PictureMemory.initial
  fetch := Fetch.initial
  arbiter := Arbiter.initial
  compositor := Compositor.initial
  port := Port.initial 0
  pending := []

/-! ## Putting one block back -/

/-- The part with its oscillator count replaced. -/
def State.setNow (s : State) (x : Nat) : State := { s with now := x }
/-- The part with its free-value number replaced. -/
def State.setFresh (s : State) (x : Nat) : State := { s with fresh := x }
/-- The part with its Carrier Receiver replaced. -/
def State.setReceiver (s : State) (x : Receiver) : State := { s with receiver := x }
/-- The part with its timing unit replaced. -/
def State.setTiming (s : State) (x : Timing) : State := { s with timing := x }
/-- The part with its Table Loader replaced. -/
def State.setSetup (s : State) (x : Setup) : State := { s with setup := x }
/-- The part with its live price state replaced. -/
def State.setLive (s : State) (x : Live) : State := { s with live := x }
/-- The part with its Change Stager replaced. -/
def State.setStager (s : State) (x : Stager) : State := { s with stager := x }
/-- The part with its Time Base replaced. -/
def State.setTimeBase (s : State) (x : TimeBase) : State := { s with timeBase := x }
/-- The part with its Price Engine replaced. -/
def State.setEngine (s : State) (x : Engine) : State := { s with engine := x }
/-- The part with its Picture Loader replaced. -/
def State.setPictures (s : State) (x : Pictures) : State := { s with pictures := x }
/-- The part with its picture memory replaced. -/
def State.setMemory (s : State) (x : PictureMemory) : State := { s with memory := x }
/-- The part with its Fetch Unit replaced. -/
def State.setFetch (s : State) (x : Fetch) : State := { s with fetch := x }
/-- The part with its Memory Arbiter replaced. -/
def State.setArbiter (s : State) (x : Arbiter) : State := { s with arbiter := x }
/-- The part with its Compositor replaced. -/
def State.setCompositor (s : State) (x : Compositor) : State := { s with compositor := x }
/-- The part with its Status Line Port replaced. -/
def State.setPort (s : State) (x : Port) : State := { s with port := x }
/-- The part with its queue of commands replaced. -/
def State.setPending (s : State) (x : List Instr) : State := { s with pending := x }

end Sys2Proof.Machine
end

