-- ==== Sys2Proof/Machine/Table.lean ====
section
/-! DEFINITION. Reading and writing indexed contents: sorted lists of (index, value) pairs, the tables built on them and
picture memory's bytes, each in one canonical form. -/

namespace Sys2Proof.Machine

/-- The value listed at index `i`, if one is. -/
def cellsFind {α : Type} : List (Nat × α) → Nat → Option α
  | [], _ => none
  | (j, v) :: rest, i => if j = i then some v else cellsFind rest i

/-- The list with `v` listed at index `i`, in its place by rising index. -/
def cellsPut {α : Type} : List (Nat × α) → Nat → α → List (Nat × α)
  | [], i, v => [(i, v)]
  | (j, w) :: rest, i, v =>
    if i < j then (i, v) :: (j, w) :: rest
    else if i = j then (i, v) :: rest
    else (j, w) :: cellsPut rest i v

/-- The list with nothing listed at index `i`. -/
def cellsDrop {α : Type} : List (Nat × α) → Nat → List (Nat × α)
  | [], _ => []
  | (j, w) :: rest, i => if j = i then cellsDrop rest i else (j, w) :: cellsDrop rest i

/-- Indexes strictly rise. -/
def cellsSorted {α : Type} : List (Nat × α) → Bool
  | [] => true
  | [_] => true
  | (i, _) :: (j, v) :: rest => decide (i < j) && cellsSorted ((j, v) :: rest)

/-- The entry of a table at an index. -/
def Table.read {α : Type} {d : α} (t : Table d) (i : Nat) : α := (cellsFind t.cells i).getD d

/-- The table with the entry at index `i` replaced. -/
def Table.write {α : Type} [DecidableEq α] {d : α} (t : Table d) (i : Nat) (v : α) : Table d :=
  if v = d then ⟨cellsDrop t.cells i⟩ else ⟨cellsPut t.cells i v⟩

/-- The table whose entries 0 to n - 1 are given by `f`, every other entry `d`. -/
def Table.ofFn {α : Type} [DecidableEq α] {d : α} (n : Nat) (f : Nat → α) : Table d :=
  ⟨(List.range n).filterMap fun i => if f i = d then none else some (i, f i)⟩

/-- The table with every entry that satisfies `p` put back to `d`. -/
def Table.clearWhere {α : Type} {d : α} (t : Table d) (p : α → Bool) : Table d :=
  ⟨t.cells.filter fun c => !p c.2⟩

/-- The canonical form of a table: rising indexes, no entry equal to what an unlisted index holds. -/
def Table.wf {α : Type} [DecidableEq α] {d : α} (t : Table d) : Bool :=
  cellsSorted t.cells && t.cells.all fun c => decide (c.2 ≠ d)

/-- The byte last written at an address of picture memory, if one has been since power-on (R138). -/
def PictureMemory.written (m : PictureMemory) (a : Nat) : Option Byte := cellsFind m.cells a

/-- The byte that picture memory holds at an address: the byte last written, or else whatever the device holds, a free
value (R138, log entry 11). -/
def PictureMemory.read (m : PictureMemory) (a : Nat) : Byte :=
  (m.written a).getD (Config.powerOnByte m.powerOns a)

/-- Picture memory with the byte at an address written. -/
def PictureMemory.writeByte (m : PictureMemory) (a : Nat) (v : Byte) : PictureMemory :=
  { m with cells := cellsPut m.cells a v }

/-- Picture memory with consecutive bytes written from an address. -/
def PictureMemory.writeBytes (m : PictureMemory) (a : Nat) : List Byte → PictureMemory
  | [] => m
  | v :: vs => (m.writeByte a v).writeBytes (a + 1) vs

/-- The canonical form of picture memory: rising addresses. An address nothing has written since power-on reads as no
byte of its own, so no listed byte equals it. -/
def PictureMemory.wf (m : PictureMemory) : Bool := cellsSorted m.cells && m.oneBitBursts.wf

end Sys2Proof.Machine
end

