-- ==== Sys2Proof/Machine/Flags.lean ====
section
/-! DEFINITION. Counters, discards and refusals: the marks that events leave for a STATUS reply. -/

namespace Sys2Proof.Machine

/-- One more event on a counter, which saturates at 65535 (chapter 00, Counters; R12). -/
def bump (c : Word16) : Word16 := if c = 0xFFFF then c else c + 1

/-- So many more events on a counter, which saturates at 65535 (R147). -/
def bumpBy (c : Word16) (n : Nat) : Word16 := BitVec.ofNat 16 (min 65535 (c.toNat + n))

/-- One more on a measurement count, which saturates at 65535 (R19). -/
def countOne (n : Nat) : Nat := min 65535 (n + 1)

/-- The code of a refusal (R14). -/
def RefusalCode.code : RefusalCode → Byte
  | .badKind => 1
  | .badLength => 2
  | .badField => 3
  | .notOpen => 4
  | .stagedOnly => 5
  | .tableEnd => 6
  | .inUse => 7
  | .poolFull => 8
  | .queueFull => 9
  | .emptyBatch => 10
  | .channelBusy => 11
  | .outOfOrder => 12
  | .bufferFull => 13
  | .replyBusy => 14
  | .broadcastQuery => 15

/-- The owner of a packet reports a refusal: the refusal counter moves and the last-refusal record becomes the code and
the packet's kind code (R14). -/
def refuseKind (code : RefusalCode) (kind : Byte) (s : State) : State :=
  s.setReceiver { s.receiver with refusals := bump s.receiver.refusals, lastRefusal := some (code, kind) }

/-- A refusal of a packet of a known kind (R14). -/
def refuse (code : RefusalCode) (kind : PacketKind) (s : State) : State := refuseKind code kind.code s

/-- What an owner makes of a packet: the state it leaves, or a refusal, which leaves the owner as it was (R14). -/
def settle (kind : PacketKind) (s : State) : Except RefusalCode State → State
  | .ok t => t
  | .error code => refuse code kind s

/-- The receiver's own counters and last refusal cleared (R12, R14, R188). -/
def Receiver.clearCounters (r : Receiver) : Receiver :=
  { r with
    symbolErrors := 0, aborted := 0, truncated := 0, overlength := 0, badCheck := 0
    accepted := 0, refusals := 0, lastRefusal := none }

/-- The Fetch Unit's four counters cleared (R168). -/
def Fetch.clearCounters (f : Fetch) : Fetch :=
  { f with underruns := 0, oversubscribed := 0, corrected := 0, uncorrectable := 0 }

/-- The Picture Loader's two counters cleared (R155). -/
def Pictures.clearCounters (p : Pictures) : Pictures := { p with stalls := 0, surplus := 0 }

/-- The Status Line Port's two counters cleared (R188). -/
def Port.clearCounters (p : Port) : Port := { p with collisions := 0, replyTimeouts := 0 }

/-- The packet in assembly, if any, thrown away: the buffer is emptied and the receiver hunts (R4, R7, R8, R10). -/
def Receiver.drop (r : Receiver) : Receiver := { r with buffer := [], assembly := .hunt }

/-- The input vertical blanking interval ends: a packet still in assembly is discarded as TRUNCATED, and no interval is
in progress (R10). -/
def Receiver.endInterval (r : Receiver) : Receiver :=
  if r.interval = true ∧ r.assembly ≠ .hunt then
    { r.drop with truncated := bump r.truncated, interval := false }
  else { r with interval := false }

end Sys2Proof.Machine
end

