-- ==== Sys2Proof/Machine/Operands.lean ====
section
/-! DEFINITION. The operand forms: byte order and bit fields, the layouts and checks of every table entry (R42 to R57),
the change record (R75 to R78) and the heads of the other payloads. -/

namespace Sys2Proof.Machine

/-! ## Bytes and fields -/

/-- The number a run of bytes spells, least significant byte first (chapter 00, Byte order). -/
def leNat : List Byte → Nat
  | [] => 0
  | b :: bs => b.toNat + 256 * leNat bs

/-- The low `n` bytes of a number, least significant byte first (chapter 00, Byte order). -/
def leBytes : Nat → Nat → List Byte
  | 0, _ => []
  | n + 1, v => BitVec.ofNat 8 v :: leBytes n (v / 256)

/-- The number in `n` bytes from an offset of an entry or a payload. -/
def field (e : List Byte) (offset n : Nat) : Nat := leNat ((e.drop offset).take n)

/-- The byte at an offset of an entry or a payload. -/
def byteAt (e : List Byte) (offset : Nat) : Byte := e.getD offset 0

/-- A number as a record number below `k`, if it is one. -/
def finOf (k n : Nat) : Option (Fin k) := if h : n < k then some ⟨n, h⟩ else none

/-- A yes/no field: 0 or 1, anything else refused (R42). -/
def yesNo (b : Byte) : Option Bool := if b = 0 then some false else if b = 1 then some true else none

/-- Yes as 1, no as 0. -/
def bit (b : Bool) : Nat := if b then 1 else 0

/-- A value clamped to a range (R42). -/
def clamp (low high n : Nat) : Nat := max low (min high n)

/-- The consecutive `e`-byte entries of a payload, `n` of them. -/
def chunks (e : Nat) : Nat → List Byte → List (List Byte)
  | 0, _ => []
  | n + 1, bytes => bytes.take e :: chunks e n (bytes.drop e)

/-- A colour at an offset. -/
def rgbAt (e : List Byte) (offset : Nat) : Rgb := ⟨byteAt e offset, byteAt e (offset + 1), byteAt e (offset + 2)⟩

/-- A colour's three bytes. -/
def rgbBytes (c : Rgb) : List Byte := [c.red, c.green, c.blue]

/-- A sixteen-bit field at an offset. -/
def word16At (e : List Byte) (offset : Nat) : Word16 := BitVec.ofNat 16 (field e offset 2)

/-- The two bytes of a sixteen-bit field. -/
def word16Bytes (w : Word16) : List Byte := leBytes 2 w.toNat

/-! ## The tables (R36) -/

/-- The table a table id names; every other id is unknown (R36). -/
def TableId.ofNumber : Nat → Option TableId
  | 0 => some .canvas
  | 1 => some .heads
  | 2 => some .slots
  | 3 => some .formats
  | 4 => some .fontMetrics
  | 5 => some (.glyphs 0)
  | 6 => some (.glyphs 1)
  | 7 => some (.glyphs 2)
  | 8 => some (.glyphs 3)
  | 9 => some .schedule
  | 10 => some .groups
  | 11 => some .tiles
  | 16 => some .items
  | 17 => some (.book 0)
  | 18 => some (.book 1)
  | 19 => some (.book 2)
  | 20 => some (.book 3)
  | 21 => some .bindings
  | 22 => some .render
  | 23 => some .groupState
  | _ => none

/-- A table's entry count (R36). -/
def TableId.entries : TableId → Nat
  | .canvas => 1
  | .heads => 4
  | .slots => 96
  | .formats => 8
  | .fontMetrics => 104
  | .glyphs _ => 76800
  | .schedule => 8
  | .groups => 16
  | .tiles => 256
  | .items => 1024
  | .book _ => 1024
  | .bindings => 96
  | .render => 96
  | .groupState => 16

/-- A table's bytes per entry (R36). -/
def TableId.entryBytes : TableId → Nat
  | .canvas => 16
  | .heads => 16
  | .slots => 32
  | .formats => 8
  | .fontMetrics => 4
  | .glyphs _ => 1
  | .schedule => 4
  | .groups => 20
  | .tiles => 12
  | .items => 8
  | .book _ => 4
  | .bindings => 4
  | .render => 16
  | .groupState => 4

/-- The read-only tables, ids 16 to 23 (R36). -/
def TableId.readOnly : TableId → Bool
  | .items => true
  | .book _ => true
  | .bindings => true
  | .render => true
  | .groupState => true
  | _ => false

/-! ## CANVAS and HEADS (R43, R44, R54) -/

/-- A written load share clamped down to the next listed value (R43). -/
def clampShare (s : Byte) : Byte :=
  if s.toNat ≥ 12 then 12 else if s.toNat ≥ 8 then 8 else if s.toNat ≥ 4 then 4 else if s.toNat ≥ 2 then 2 else 0

/-- A written CANVAS entry checked and clamped (R43). -/
def decodeCanvas (e : List Byte) : Option CanvasEntry :=
  if 64 ≤ field e 0 2 ∧ field e 0 2 ≤ 8192 ∧ 64 ≤ field e 2 2 ∧ field e 2 2 ≤ 2304 then
    some
      { width := word16At e 0
        height := word16At e 2
        plate := rgbAt e 4
        loadShare := clampShare (byteAt e 7)
        nominalPeriod := BitVec.ofNat 16 (clamp 8000 50000 (field e 8 2)) }
  else none

/-- A CANVAS entry as a READ returns it (R54). -/
def encodeCanvas (c : CanvasEntry) : List Byte :=
  word16Bytes c.width ++ word16Bytes c.height ++ rgbBytes c.plate ++ [c.loadShare] ++ word16Bytes c.nominalPeriod
    ++ [0, 0, 0, 0, 0, 0]

/-- A written HEADS entry checked and clamped (R44). -/
def decodeHead (e : List Byte) : Option HeadEntry := do
  let enabled ← yesNo (byteAt e 0)
  pure
    { enabled := enabled
      x := word16At e 2
      y := word16At e 4
      w := BitVec.ofNat 16 (clamp 1 4096 (field e 6 2))
      h := BitVec.ofNat 16 (clamp 1 2304 (field e 8 2))
      blank := rgbAt e 10 }

/-- A HEADS entry as a READ returns it (R54). -/
def encodeHead (h : HeadEntry) : List Byte :=
  leBytes 1 (bit h.enabled) ++ [0] ++ word16Bytes h.x ++ word16Bytes h.y ++ word16Bytes h.w ++ word16Bytes h.h
    ++ rgbBytes h.blank ++ [0, 0, 0]

/-! ## SLOTS (R45, R55) -/

/-- Alignment from its number (R55). -/
def Alignment.ofNumber : Nat → Option Alignment
  | 0 => some .left
  | 1 => some .center
  | 2 => some .right
  | _ => none

/-- An alignment's number (R55). -/
def Alignment.number : Alignment → Nat
  | .left => 0
  | .center => 1
  | .right => 2

/-- Treatment from its number (R55). -/
def Treatment.ofNumber : Nat → Option Treatment
  | 0 => some .none
  | 1 => some .dim
  | 2 => some .grey
  | 3 => some .altTile
  | _ => Option.none

/-- A treatment's number (R55). -/
def Treatment.number : Treatment → Nat
  | .none => 0
  | .dim => 1
  | .grey => 2
  | .altTile => 3

/-- A written SLOTS entry checked and clamped (R45). -/
def decodeSlot (e : List Byte) : Option SlotEntry := do
  let font ← finOf 4 ((byteAt e 20).toNat % 16)
  let format ← finOf 8 ((byteAt e 20).toNat / 16)
  let alignment ← Alignment.ofNumber (byteAt e 21).toNat
  let treatment ← Treatment.ofNumber (byteAt e 22).toNat
  pure
    { x := word16At e 0
      y := word16At e 2
      w := word16At e 4
      h := word16At e 6
      tx := word16At e 8
      ty := word16At e 10
      px := word16At e 12
      py := word16At e 14
      pw := BitVec.ofNat 16 (clamp 0 8191 (field e 16 2))
      ph := BitVec.ofNat 16 (clamp 0 8191 (field e 18 2))
      font := font
      format := format
      alignment := alignment
      treatment := treatment
      dayparts := byteAt e 23
      priceColour := rgbAt e 24
      fillColour := rgbAt e 27
      fillAlpha := byteAt e 30
      d := byteAt e 31 }

/-- A SLOTS entry as a READ returns it (R55). -/
def encodeSlot (s : SlotEntry) : List Byte :=
  word16Bytes s.x ++ word16Bytes s.y ++ word16Bytes s.w ++ word16Bytes s.h ++ word16Bytes s.tx ++ word16Bytes s.ty
    ++ word16Bytes s.px ++ word16Bytes s.py ++ word16Bytes s.pw ++ word16Bytes s.ph
    ++ leBytes 1 (s.font.val + 16 * s.format.val) ++ leBytes 1 s.alignment.number ++ leBytes 1 s.treatment.number
    ++ [s.dayparts] ++ rgbBytes s.priceColour ++ rgbBytes s.fillColour ++ [s.fillAlpha, s.d]

/-! ## FORMATS (R46, R55) -/

/-- Decimals from their number (R46). -/
def Decimals.ofNumber : Nat → Option Decimals
  | 0 => some .zero
  | 2 => some .two
  | _ => none

/-- The number of decimals (R46). -/
def Decimals.number : Decimals → Nat
  | .zero => 0
  | .two => 2

/-- Currency placement from its number (R55). -/
def Currency.ofNumber : Nat → Option Currency
  | 0 => some .none
  | 1 => some .before
  | 2 => some .after
  | _ => Option.none

/-- A currency placement's number (R55). -/
def Currency.number : Currency → Nat
  | .none => 0
  | .before => 1
  | .after => 2

/-- Tax mode from its number (R55). -/
def TaxMode.ofNumber : Nat → Option TaxMode
  | 0 => some .exclusive
  | 1 => some .inclusive
  | _ => none

/-- A tax mode's number (R55). -/
def TaxMode.number : TaxMode → Nat
  | .exclusive => 0
  | .inclusive => 1

/-- Rounding from its number (R55). -/
def Rounding.ofNumber : Nat → Option Rounding
  | 0 => some .exact
  | 1 => some .nearest
  | 2 => some .up
  | 3 => some .charm
  | _ => none

/-- A rounding's number (R55). -/
def Rounding.number : Rounding → Nat
  | .exact => 0
  | .nearest => 1
  | .up => 2
  | .charm => 3

/-- Granularity from its number (R46). -/
def Granularity.ofNumber : Nat → Option Granularity
  | 1 => some .g1
  | 5 => some .g5
  | 10 => some .g10
  | 50 => some .g50
  | 100 => some .g100
  | _ => none

/-- A granularity in minor units (R46). -/
def Granularity.units : Granularity → Nat
  | .g1 => 1
  | .g5 => 5
  | .g10 => 10
  | .g50 => 50
  | .g100 => 100

/-- A written FORMATS entry checked (R46). -/
def decodeFormat (e : List Byte) : Option FormatEntry := do
  let decimals ← Decimals.ofNumber (byteAt e 0).toNat
  let currency ← Currency.ofNumber (byteAt e 1).toNat
  let taxMode ← TaxMode.ofNumber (byteAt e 2).toNat
  let rate ← finOf 5001 (field e 3 2)
  let rounding ← Rounding.ofNumber (byteAt e 5).toNat
  let granularity ← Granularity.ofNumber (byteAt e 6).toNat
  pure
    { decimals := decimals
      currency := currency
      taxMode := taxMode
      rate := rate
      rounding := rounding
      granularity := granularity
      raised := (byteAt e 7).getLsbD 0
      dropZeroFraction := (byteAt e 7).getLsbD 1
      zeroMark := (byteAt e 7).getLsbD 2 }

/-- A FORMATS entry as a READ returns it (R55). -/
def encodeFormat (f : FormatEntry) : List Byte :=
  leBytes 1 f.decimals.number ++ leBytes 1 f.currency.number ++ leBytes 1 f.taxMode.number ++ leBytes 2 f.rate.val
    ++ leBytes 1 f.rounding.number ++ leBytes 1 f.granularity.units
    ++ leBytes 1 (bit f.raised + 2 * bit f.dropZeroFraction + 4 * bit f.zeroMark)

/-! ## FONT_METRICS (R47, R55) -/

/-- A written font height, clamped (R47). -/
def decodeFontHeight (e : List Byte) : Byte := BitVec.ofNat 8 (clamp 8 96 (byteAt e 0).toNat)

/-- A font header as a READ returns it (R55). -/
def encodeFontHeight (h : Byte) : List Byte := [h, 0, 0, 0]

/-- A written glyph metric checked and clamped (R47). -/
def decodeMetric (e : List Byte) : Option Metric := do
  let present ← yesNo (byteAt e 0)
  pure
    { present := present
      width := BitVec.ofNat 8 (clamp 1 64 (byteAt e 1).toNat)
      advance := BitVec.ofNat 8 (clamp 1 80 (byteAt e 2).toNat) }

/-- A glyph metric as a READ returns it (R55). -/
def encodeMetric (m : Metric) : List Byte := leBytes 1 (bit m.present) ++ [m.width, m.advance, 0]

/-- The font an entry of FONT_METRICS belongs to (R39). -/
def metricFont (index : Nat) : Nat := index / 26

/-- Where the metric of a glyph code of a font stands in `Setup.metrics`. -/
def metricIndex (font code : Nat) : Nat := font * 25 + code

/-- Where a byte of a font's masks stands in `Setup.glyphs`. -/
def glyphIndex (font offset : Nat) : Nat := font * 76800 + offset

/-! ## SCHEDULE and GROUPS (R49, R50, R54, R55) -/

/-- A written SCHEDULE entry checked (R49). -/
def decodeSchedule (e : List Byte) : Option ScheduleEntry := do
  let enabled ← yesNo (byteAt e 0)
  let book ← finOf 4 (byteAt e 1).toNat
  let start ← finOf 1440 (field e 2 2)
  pure { enabled := enabled, start := start, book := book }

/-- A SCHEDULE entry as a READ returns it (R54). -/
def encodeSchedule (s : ScheduleEntry) : List Byte :=
  leBytes 1 (bit s.enabled) ++ leBytes 1 s.book.val ++ leBytes 2 s.start.val

/-- A written member count: 0 is stored as 1, 9 to 15 are refused (R50). -/
def memberCount (n : Nat) : Option Nat := if n = 0 then some 1 else if n ≤ 8 then some n else none

/-- A written leader field: a group number, or 255 for none; any other value is refused (R50, R55). -/
def leaderField (n : Nat) : Option (Option (Fin 16)) :=
  if n = 255 then some none else (finOf 16 n).map some

/-- A written dwell: 0 is stored as 1 (R50). -/
def dwellField (n : Nat) : Word16 := if n = 0 then 1 else BitVec.ofNat 16 n

/-- A written GROUPS entry checked and clamped (R50). -/
def decodeGroup (e : List Byte) : Option GroupEntry := do
  let m0 ← finOf 1024 (field e 0 2)
  let m1 ← finOf 1024 (field e 2 2)
  let m2 ← finOf 1024 (field e 4 2)
  let m3 ← finOf 1024 (field e 6 2)
  let m4 ← finOf 1024 (field e 8 2)
  let m5 ← finOf 1024 (field e 10 2)
  let m6 ← finOf 1024 (field e 12 2)
  let m7 ← finOf 1024 (field e 14 2)
  let count ← memberCount ((byteAt e 16).toNat % 16)
  let leader ← leaderField (byteAt e 17).toNat
  pure
    { members := #v[m0, m1, m2, m3, m4, m5, m6, m7]
      count := count
      dwell := dwellField (field e 18 2)
      mode := if (byteAt e 16).getLsbD 4 then .oneShot else .repeating
      skipUnavailable := (byteAt e 16).getLsbD 5
      leader := leader }

/-- The byte of a leader field (R55). -/
def leaderByte : Option (Fin 16) → Byte
  | none => 255
  | some h => BitVec.ofNat 8 h.val

/-- A group mode's bit (R55). -/
def GroupMode.number : GroupMode → Nat
  | .repeating => 0
  | .oneShot => 1

/-- The member at a position of a group's list (R50). -/
def GroupEntry.member (g : GroupEntry) (position : Nat) : Fin 1024 := g.members.toList.getD position 0

/-- A GROUPS entry as a READ returns it (R55). -/
def encodeGroup (g : GroupEntry) : List Byte :=
  leBytes 2 (g.member 0).val ++ leBytes 2 (g.member 1).val ++ leBytes 2 (g.member 2).val ++ leBytes 2 (g.member 3).val
    ++ leBytes 2 (g.member 4).val ++ leBytes 2 (g.member 5).val ++ leBytes 2 (g.member 6).val
    ++ leBytes 2 (g.member 7).val
    ++ leBytes 1 (g.count % 16 + 16 * g.mode.number + 32 * bit g.skipUnavailable) ++ [leaderByte g.leader]
    ++ word16Bytes g.dwell

/-! ## TILES (R51, R54) -/

/-- The bytes of picture memory (R138). -/
def memoryBytes : Nat := 268435456

/-- Key mode from its number (R54). -/
def KeyMode.ofNumber : Nat → Option KeyMode
  | 0 => some .solid
  | 1 => some .alpha
  | _ => none

/-- A key mode's number (R54). -/
def KeyMode.number : KeyMode → Nat
  | .solid => 0
  | .alpha => 1

/-- A written TILES entry checked (R51). -/
def decodeTile (e : List Byte) : Option TileEntry := do
  let keyMode ← KeyMode.ofNumber (byteAt e 8).toNat
  if field e 0 4 % 256 = 0 ∧ field e 0 4 < memoryBytes ∧ 1 ≤ field e 4 2 ∧ field e 4 2 ≤ 1024
      ∧ 1 ≤ field e 6 2 ∧ field e 6 2 ≤ 1024 then
    some
      { base := BitVec.ofNat 32 (field e 0 4)
        width := word16At e 4
        height := word16At e 6
        keyMode := keyMode }
  else none

/-- A TILES entry as a READ returns it (R54). -/
def encodeTile (t : TileEntry) : List Byte :=
  leBytes 4 t.base.toNat ++ word16Bytes t.width ++ word16Bytes t.height ++ leBytes 1 t.keyMode.number ++ [0, 0, 0]

/-! ## The read-only tables (R56, R57) -/

/-- Status from its number (R56, R75, R87). -/
def Status.ofNumber : Nat → Option Status
  | 0 => some .available
  | 1 => some .soldOut
  | 2 => some .hidden
  | _ => none

/-- A status's number (R56). -/
def Status.number : Status → Nat
  | .available => 0
  | .soldOut => 1
  | .hidden => 2

/-- A modifier's kind number (R56). -/
def Modifier.kindNumber : Modifier → Nat
  | .none => 0
  | .percentOff _ => 1
  | .amountOff _ => 2
  | .fixed _ => 3

/-- A modifier's value, 0 for NONE (R56, R61). -/
def Modifier.value : Modifier → Nat
  | .none => 0
  | .percentOff m => m.val
  | .amountOff a => a.val
  | .fixed f => f.val

/-- An ITEMS entry (R56). -/
def encodeItem (i : Item) : List Byte :=
  leBytes 1 i.status.number ++ leBytes 1 i.modifier.kindNumber ++ leBytes 3 i.modifier.value
    ++ [i.tile.getD 0, i.soldOutTile.getD 0] ++ leBytes 1 (bit i.tile.isSome + 2 * bit i.soldOutTile.isSome)

/-- A BOOK entry (R56): 0xFFFFFF for NO_PRICE. -/
def encodePrice (p : Option Price) : List Byte :=
  leBytes 3 ((p.map Fin.val).getD 0xFFFFFF) ++ [0]

/-- A source's kind number (R56). -/
def Source.kindNumber : Source → Nat
  | .none => 0
  | .item _ => 1
  | .group _ => 2

/-- A source's number, 0 for NONE (R56). -/
def Source.number : Source → Nat
  | .none => 0
  | .item n => n.val
  | .group g => g.val

/-- A tile choice's kind number (R56). -/
def TileChoice.kindNumber : TileChoice → Nat
  | .itemTile => 0
  | .fixed _ => 1
  | .noTile => 2

/-- A tile choice's tile number, 0 for any but FIXED (R56). -/
def TileChoice.number : TileChoice → Byte
  | .fixed t => t
  | _ => 0

/-- A BINDINGS entry (R56). -/
def encodeBinding (b : Binding) : List Byte :=
  leBytes 1 (bit b.active + 4 * b.source.kindNumber + 16 * b.tileChoice.kindNumber) ++ leBytes 2 b.source.number
    ++ [b.tileChoice.number]

/-- A GROUP_STATE entry (R56). -/
def encodeRun (r : GroupRun) : List Byte :=
  leBytes 1 r.index ++ leBytes 1 (bit r.stopped + 2 * bit r.badLeader) ++ leBytes 2 r.count

/-- A field of a RENDER entry: a value cut to its width and moved to its bit position (R57). -/
def place (value width position : Nat) : Nat := (value % 2 ^ width) * 2 ^ position

/-- The number of a treatment applied (R57). -/
def Applied.number : Applied → Nat
  | .none => 0
  | .dim _ => 1
  | .grey => 2
  | .altTile => 3

/-- The flags in order from bit 43: SATURATED, CURRENCY_DROPPED, OVERFLOW, NO_PRICE, SOLD_OUT, GLYPH_MISSING, NO_FIT
(R57). -/
def RenderFlags.number (f : RenderFlags) : Nat :=
  bit f.saturated + 2 * bit f.currencyDropped + 4 * bit f.overflow + 8 * bit f.noPrice + 16 * bit f.soldOut
    + 32 * bit f.glyphMissing + 64 * bit f.noFit

/-- A RENDER entry as one 128-bit number (R57). Glyph positions beyond the run read 31. -/
def renderNumber (r : RenderRecord) : Nat :=
  place r.display 17 0 + place r.run.length 3 17 + place (bit r.visible) 1 20 + place r.applied.number 2 21
    + place (bit r.tile.isSome) 1 23 + place (r.tile.getD 0).toNat 8 24
    + place ((r.item.map Fin.val).getD 0) 10 32 + place (bit r.item.isSome) 1 42 + place r.flags.number 7 43
    + place (r.run.getD 0 31) 5 50 + place (r.run.getD 1 31) 5 55 + place (r.run.getD 2 31) 5 60
    + place (r.run.getD 3 31) 5 65 + place (r.run.getD 4 31) 5 70 + place (r.run.getD 5 31) 5 75
    + place (r.run.getD 6 31) 5 80
    + place r.xOffset 13 85 + place r.yOffset 13 98 + place r.generation.toNat 16 112

/-- A RENDER entry (R57). -/
def encodeRender (r : RenderRecord) : List Byte := leBytes 16 (renderNumber r)

/-! ## Change records (R75 to R78) -/

/-- A price field: a price, NO_PRICE, or out of range (R76). -/
def priceField (n : Nat) : Option (Option Price) :=
  if n = 0xFFFFFF then some none else (finOf 100000 n).map some

/-- A modifier from its kind and value fields: the value must fit the kind, and NONE holds no value (R77). -/
def modifierField (kind value : Nat) : Option Modifier :=
  match kind with
  | 0 => some .none
  | 1 => (finOf 1001 value).map .percentOff
  | 2 => (finOf 100000 value).map .amountOff
  | 3 => (finOf 100000 value).map .fixed
  | _ => none

/-- A source from its kind and number fields; for NONE the number is not examined (R78). -/
def sourceField (kind number : Nat) : Option Source :=
  match kind with
  | 0 => some .none
  | 1 => (finOf 1024 number).map .item
  | 2 => (finOf 16 number).map .group
  | _ => none

/-- A tile choice from its kind and tile fields (R78). -/
def tileChoiceField (kind : Nat) (tile : Byte) : Option TileChoice :=
  match kind with
  | 0 => some .itemTile
  | 1 => some (.fixed tile)
  | 2 => some .noTile
  | _ => none

/-- A tile field with its present bit (R77). -/
def optionalTile (present : Bool) (tile : Byte) : Option Byte := if present then some tile else none

/-- A PRICE record (R75, R76). -/
def parsePrice (r : List Byte) : Option Change := do
  let book ← finOf 4 (byteAt r 1).toNat
  let item ← finOf 1024 (field r 2 2)
  let entry ← priceField (field r 4 3)
  pure (.price book item entry)

/-- An ITEM record (R75, R77). -/
def parseItem (r : List Byte) : Option Change := do
  let item ← finOf 1024 (field r 2 2)
  let status ← Status.ofNumber (byteAt r 4).toNat
  let modifier ← modifierField (byteAt r 5).toNat (field r 6 3)
  pure
    (.item item
      { status := status
        modifier := modifier
        tile := optionalTile ((byteAt r 11).getLsbD 0) (byteAt r 9)
        soldOutTile := optionalTile ((byteAt r 11).getLsbD 1) (byteAt r 10) })

/-- A BIND record (R75, R78). -/
def parseBind (r : List Byte) : Option Change := do
  let slot ← finOf 96 (field r 2 2)
  let active ← yesNo (byteAt r 4)
  let source ← sourceField (byteAt r 5).toNat (field r 6 2)
  let tileChoice ← tileChoiceField (byteAt r 8).toNat (byteAt r 9)
  pure (.bind slot { active := active, source := source, tileChoice := tileChoice })

/-- A change record of a STAGE payload: the change it describes, or bad (R75). -/
def parseChange (r : List Byte) : Option Change :=
  match (byteAt r 0).toNat with
  | 1 => parsePrice r
  | 2 => parseItem r
  | 3 => parseBind r
  | _ => none

/-- Every element's reading, or none when one is bad. -/
def allOf {α β : Type} (f : α → Option β) : List α → Option (List β)
  | [] => some []
  | x :: xs =>
    match f x, allOf f xs with
    | some y, some ys => some (y :: ys)
    | _, _ => none

/-- A pair of a STATUS_NOW payload; byte 3 is not examined (R87). -/
def parsePair (r : List Byte) : Option (Fin 1024 × Status) := do
  let item ← finOf 1024 (field r 0 2)
  let status ← Status.ofNumber (byteAt r 2).toNat
  pure (item, status)

/-- A source format from its number (R144). -/
def SourceFormat.ofNumber : Nat → Option SourceFormat
  | 0 => some .rgb888
  | 1 => some .rgba8888
  | 2 => some .rgb565
  | _ => none

/-- A load channel from its number (R143). -/
def channelOfNumber : Nat → Option LoadChannel
  | 0 => some .a
  | 1 => some .b
  | _ => none

end Sys2Proof.Machine
end

