-- ==== Sys2Proof/Machine/Ops.lean ====
section
/-! DEFINITION. Operations that several commands share: what is in use, the ways a load ends, and reading live entries. -/

namespace Sys2Proof.Machine

/-- A meaning that changes the state and neither faults nor refuses. -/
abbrev Result := Host.Outcome State Fault Refusal

/-- The slots, 0 to 95. -/
def slotNumbers : List Nat := List.range 96

/-! ## In use (R38) -/

/-- Tile `t` is the shown tile of a visible render record of the current frame (R38). -/
def tileShown (s : State) (t : Byte) : Bool :=
  slotNumbers.any fun i => (s.engine.frame.read i).visible && (s.engine.frame.read i).tile == some t

/-- Font `f` is in use: a visible render record of the current frame belongs to a slot whose font, as latched at the
frame's boundary, is `f`. Before the first boundary nothing is (R38). -/
def fontInUse (s : State) (f : Nat) : Bool :=
  match s.compositor.latch with
  | none => false
  | some l => slotNumbers.any fun i => (s.engine.frame.read i).visible && (l.slots.read i).font.val == f

/-- A tile is in use for a TILES write: shown, or LOADING (R38). -/
def tileInUse (s : State) (t : Byte) : Bool :=
  tileShown s t || (s.pictures.directory.read t.toNat).state == .loading

/-! ## Load channels (R143) -/

/-- A load channel of the Picture Loader. -/
def Pictures.channel (p : Pictures) : LoadChannel → Channel
  | .a => p.channelA
  | .b => p.channelB

/-- The Picture Loader with a load channel replaced. -/
def Pictures.setChannel (p : Pictures) (c : LoadChannel) (x : Channel) : Pictures :=
  match c with
  | .a => { p with channelA := x }
  | .b => { p with channelB := x }

/-- The other channel. -/
def otherChannel : LoadChannel → LoadChannel
  | .a => .b
  | .b => .a

/-- A channel targets a tile from its LOAD_OPEN until it returns to IDLE (R141). -/
def Channel.targets (x : Channel) (t : Byte) : Bool := x.state != .idle && x.tile == t

/-- A channel back in IDLE: its target tile and received count stay, the rest of the load is gone (R143). -/
def Channel.retire (x : Channel) : Channel :=
  { x with state := .idle, holding := [], buffer := [], stall := 0, endRows := none }

/-- The Picture Loader with a tile's directory record replaced. -/
def Pictures.setTile (p : Pictures) (t : Byte) (r : TileRecord) : Pictures :=
  { p with directory := p.directory.write t.toNat r }

/-- A load discarded: its channel becomes IDLE and its tile EMPTY (R152). -/
def Pictures.abort (p : Pictures) (c : LoadChannel) : Pictures :=
  (p.setTile (p.channel c).tile TileRecord.initial).setChannel c (p.channel c).retire

/-- What the tile becomes when a drain ends, by the end rows and the tile's height (R150). -/
def drainedRecord (endRows : Option Nat) (height : Nat) : TileRecord :=
  match endRows with
  | none => ⟨.ready, height⟩
  | some 0 => TileRecord.initial
  | some (k + 1) => ⟨.ready, k + 1⟩

/-- The drain of a channel ends if the channel is ENDING and no word is left in its buffer: the tile becomes READY with
its rows, or EMPTY, and the channel IDLE (R150). -/
def endDrain (c : LoadChannel) (s : State) : State :=
  let x := s.pictures.channel c
  if x.state = .ending ∧ x.buffer = [] then
    s.setPictures
      ((s.pictures.setTile x.tile (drainedRecord x.endRows (s.setup.tiles.read x.tile.toNat).height.toNat)).setChannel c
        x.retire)
  else s

/-- The load of an OPEN channel whose stall count has reached 120 is aborted and counted (R153). -/
def stallOut (c : LoadChannel) (p : Pictures) : Pictures :=
  let x := p.channel c
  if x.state = .opened ∧ 120 ≤ x.stall then { p.abort c with stalls := bump p.stalls } else p

/-- A frame boundary counts on a channel in OPEN (R153). -/
def Channel.countBoundary (x : Channel) : Channel :=
  if x.state = .opened then { x with stall := x.stall + 1 } else x

/-- The Picture Loader at a frame boundary: both stall counts, then the aborts they call for (R153). -/
def Pictures.boundary (p : Pictures) : Pictures :=
  stallOut .b (stallOut .a { p with
    channelA := p.channelA.countBoundary
    channelB := p.channelB.countBoundary })

/-- A fault report for a tile: a READY tile becomes FAULTED with its valid rows kept, any other stays (R142). -/
def Pictures.reportFault (p : Pictures) (t : Byte) : Pictures :=
  let r := p.directory.read t.toNat
  if r.state = .ready then p.setTile t { r with state := .faulted } else p

/-- A channel after one of the resets that spare the source format and the byte count (R156). -/
def Channel.reset (x : Channel) : Channel := { x.retire with tile := 0, received := 0 }

/-- The Picture Loader after board reset or soft reset: both channels IDLE, LOADING tiles EMPTY, the others kept, both
counters 0 (R156). -/
def Pictures.reset (p : Pictures) : Pictures where
  directory := p.directory.clearWhere fun r => r.state == .loading
  channelA := p.channelA.reset
  channelB := p.channelB.reset
  stalls := 0
  surplus := 0

/-! ## Live entries -/

/-- Where entry `item` of book `book` stands in `Live.books`. -/
def bookIndex (book : Fin 4) (item : Nat) : Nat := book.val * 1024 + item

/-- The entry of a book for an item (R63). -/
def Live.price (l : Live) (book : Fin 4) (item : Nat) : Option Price := l.books.read (bookIndex book item)

end Sys2Proof.Machine
end

