-- ==== Sys2Proof/Machine/Loading.lean ====
section
/-! DEFINITION. The Picture Loader's packets (chapter 08): opening a load, taking data, ending and aborting it. -/

namespace Sys2Proof.Machine

/-! ## Pixels (R148) -/

/-- Source bytes per pixel (R143). -/
def SourceFormat.bytesPerPixel : SourceFormat → Nat
  | .rgb888 => 3
  | .rgba8888 => 4
  | .rgb565 => 2

/-- A five-bit field expanded to 0 to 255 (R148). -/
def expand5 (c : Nat) : Byte := BitVec.ofNat 8 ((c * 255 + 15) / 31)

/-- A six-bit field expanded to 0 to 255 (R148). -/
def expand6 (c : Nat) : Byte := BitVec.ofNat 8 ((c * 255 + 31) / 63)

/-- A complete source pixel expanded to a word (R148). -/
def expandPixel (f : SourceFormat) (bytes : List Byte) : Rgba :=
  match f with
  | .rgb888 => ⟨byteAt bytes 0, byteAt bytes 1, byteAt bytes 2, 255⟩
  | .rgba8888 => ⟨byteAt bytes 0, byteAt bytes 1, byteAt bytes 2, byteAt bytes 3⟩
  | .rgb565 =>
    let v := field bytes 0 2
    ⟨expand5 (v / 2048), expand6 (v / 32 % 64), expand5 (v % 32), 255⟩

/-- A tile's pixels (R138). -/
def TileEntry.pixels (t : TileEntry) : Nat := t.width.toNat * t.height.toNat

/-! ## LOAD_OPEN (R144, R145) -/

/-- A channel opened on a tile: OPEN with nothing taken (R145). -/
def Channel.opening (x : Channel) (tile : Byte) (f : SourceFormat) (e : TileEntry) : Channel :=
  { x with
    state := .opened
    tile := tile
    format := f
    byteCount := e.pixels * f.bytesPerPixel
    received := 0
    holding := []
    buffer := []
    stall := 0
    endRows := none }

/-- LOAD_OPEN checked in the order of R144 and carried out as R145. -/
def loadOpen (payload : List Byte) (s : State) : Except RefusalCode State :=
  if payload.length ≠ 4 then .error .badLength
  else
    match channelOfNumber (byteAt payload 0).toNat, SourceFormat.ofNumber (byteAt payload 2).toNat with
    | some c, some f =>
      let tile := byteAt payload 1
      let e := s.setup.tiles.read tile.toNat
      if (s.pictures.channel c).state ≠ .idle ∨ (s.pictures.channel (otherChannel c)).targets tile = true then
        .error .channelBusy
      else if (s.pictures.directory.read tile.toNat).state = .ready ∧ tileShown s tile = true then .error .inUse
      else if memoryBytes < e.base.toNat + e.pixels * 4 then .error .badField
      else
        .ok (s.setPictures
          ((s.pictures.setTile tile ⟨.loading, 0⟩).setChannel c ((s.pictures.channel c).opening tile f e)))
    | _, _ => .error .badField

/-! ## LOAD_DATA (R146, R147) -/

/-- The pixel words that complete pixels give, the first of them pixel `k` of a tile from `base` (R147, R148). -/
def formWords (f : SourceFormat) (base : Nat) : Nat → List (List Byte) → List BufferedWord
  | _, [] => []
  | k, pixel :: rest => ⟨base + 4 * k, expandPixel f pixel⟩ :: formWords f base (k + 1) rest

/-- The data bytes a LOAD_DATA would take: no more than the load still lacks (R147). -/
def Channel.taking (x : Channel) (data : List Byte) : List Byte := data.take (x.byteCount - x.received)

/-- The holding bytes with those taken behind them (R147). -/
def Channel.loose (x : Channel) (data : List Byte) : List Byte := x.holding ++ x.taking data

/-- How many pixels the holding bytes and the bytes taken complete (R146, R147). -/
def Channel.completes (x : Channel) (data : List Byte) : Nat := (x.loose data).length / x.format.bytesPerPixel

/-- The pixels of the load formed so far (R151). -/
def Channel.formed (x : Channel) : Nat := (x.received - x.holding.length) / x.format.bytesPerPixel

/-- A channel after it has taken data, for a tile from `base` (R147). -/
def Channel.take (x : Channel) (base : Nat) (data : List Byte) : Channel :=
  let n := x.completes data
  let received := x.received + (x.taking data).length
  { x with
    received := received
    holding := (x.loose data).drop (n * x.format.bytesPerPixel)
    buffer := x.buffer ++ formWords x.format base x.formed (chunks x.format.bytesPerPixel n (x.loose data))
    stall := 0
    state := if received = x.byteCount then .ending else x.state }

/-- LOAD_DATA checked in the order of R146 and carried out as R147. Where no blanking interval is open no packet arrives
(R34, R153); the row sent there is carried out like any other and sets the stall count to 0, which is the model's choice
(log entry 6). -/
def loadData (payload : List Byte) (s : State) : Except RefusalCode State :=
  if payload.length < 8 then .error .badLength
  else
    match channelOfNumber (byteAt payload 0).toNat with
    | none => .error .badField
    | some c =>
      let x := s.pictures.channel c
      let data := payload.drop 8
      if x.state ≠ .opened then .error .notOpen
      else if field payload 4 4 ≠ x.received then .error .outOfOrder
      else if 4096 - 4 * x.buffer.length < 4 * x.completes data then .error .bufferFull
      else
        let base := (s.setup.tiles.read x.tile.toNat).base.toNat
        .ok (endDrain c (s.setPictures
          { s.pictures.setChannel c (x.take base data) with
            surplus := bumpBy s.pictures.surplus (data.length - (x.taking data).length) }))

/-! ## LOAD_END and LOAD_ABORT (R151, R152) -/

/-- The channel number that is a whole payload, checked as R151 and R152 begin. -/
def oneChannel (payload : List Byte) : Except RefusalCode LoadChannel :=
  if payload.length ≠ 1 then .error .badLength
  else
    match channelOfNumber (byteAt payload 0).toNat with
    | none => .error .badField
    | some c => .ok c

/-- The complete rows of a load (R151). -/
def Channel.completeRows (x : Channel) (e : TileEntry) : Nat := x.formed / e.width.toNat

/-- A channel whose load is cut to its complete rows (R151). -/
def Channel.cut (x : Channel) (e : TileEntry) : Channel :=
  { x with
    holding := []
    buffer := x.buffer.filter fun w =>
      decide (w.address < e.base.toNat + 4 * (x.completeRows e * e.width.toNat))
    endRows := some (x.completeRows e)
    state := .ending }

/-- LOAD_END (R151). -/
def loadEnd (payload : List Byte) (s : State) : Except RefusalCode State :=
  match oneChannel payload with
  | .error code => .error code
  | .ok c =>
    let x := s.pictures.channel c
    if x.state ≠ .opened then .error .notOpen
    else .ok (endDrain c (s.setPictures (s.pictures.setChannel c (x.cut (s.setup.tiles.read x.tile.toNat)))))

/-- LOAD_ABORT (R152): an IDLE channel is left as it was. -/
def loadAbort (payload : List Byte) (s : State) : Except RefusalCode State :=
  match oneChannel payload with
  | .error code => .error code
  | .ok c => .ok (if (s.pictures.channel c).state = .idle then s else s.setPictures (s.pictures.abort c))

/-! ## Commands -/

/-- LOAD_OPEN (R144, R145). -/
def execLoadOpen (payload : List Byte) (s : State) : Result := .next (settle .loadOpen s (loadOpen payload s))

/-- LOAD_DATA (R146, R147). -/
def execLoadData (payload : List Byte) (s : State) : Result := .next (settle .loadData s (loadData payload s))

/-- LOAD_END (R151). -/
def execLoadEnd (payload : List Byte) (s : State) : Result := .next (settle .loadEnd s (loadEnd payload s))

/-- LOAD_ABORT (R152). -/
def execLoadAbort (payload : List Byte) (s : State) : Result := .next (settle .loadAbort s (loadAbort payload s))

end Sys2Proof.Machine
end

