-- ==== Sys2Proof/Machine/Staging.lean ====
section
/-! DEFINITION. The Change Stager (chapter 05): staging, sealing, holding, immediate status, and application to the live
price state at a frame boundary. -/

namespace Sys2Proof.Machine

/-! ## The pool -/

/-- The records standing in sealed batches. -/
def sealedRecords : List Batch → Nat
  | [] => 0
  | b :: bs => b.records.length + sealedRecords bs

/-- The free records of the pool of 128 (R74). -/
def Stager.free (g : Stager) : Nat := 128 - (g.openBatch.length + sealedRecords g.sealed)

/-! ## Application at the frame boundary -/

/-- A change record applied to the live price state (R76, R77, R78). -/
def applyChange (l : Live) : Change → Live
  | .price book item entry => { l with books := l.books.write (bookIndex book item.val) entry }
  | .item item record => { l with items := l.items.write item.val record }
  | .bind slot binding => { l with bindings := l.bindings.write slot.val binding }

/-- A sealed batch applied, record after record (R93). -/
def applyBatch (l : Live) (b : Batch) : Live := b.records.foldl applyChange l

/-- A sealed batch is due at a boundary with this reading (R90). -/
def Batch.due (b : Batch) (reading : Option Nat) : Bool :=
  match b.tag, reading with
  | none, _ => true
  | some _, none => false
  | some tag, some s => decide ((s + 86400 - tag) % 86400 < 43200)

/-- Due batches applied from the head of the queue until one is not due: the queue left and the live price state
reached (R92). -/
def applyQueue (reading : Option Nat) : List Batch → Live → List Batch × Live
  | [], l => ([], l)
  | b :: bs, l => if b.due reading then applyQueue reading bs (applyBatch l b) else (b :: bs, l)

/-- An immediate status applied: the item's status and nothing else (R88, R94). -/
def applyStatus (l : Live) (p : Fin 1024 × Status) : Live :=
  { l with items := l.items.write p.1.val { l.items.read p.1.val with status := p.2 } }

/-- The live book for a daypart in effect (R64). -/
def liveBookFor (schedule : Table ScheduleEntry.initial) (daypart : Option (Fin 8)) : Fin 4 :=
  match daypart with
  | none => 0
  | some k => (schedule.read k.val).book

/-- Two live states differ in an item record, a book entry, a binding or the live book (R66). -/
def liveDiffers (l m : Live) : Bool :=
  decide (l.items ≠ m.items ∨ l.books ≠ m.books ∨ l.bindings ≠ m.bindings ∨ l.liveBook ≠ m.liveBook)

/-- The generation settled against the ending frame's live state: one more when anything differs, wrapping, else as it
was (R66, R95). -/
def settleGeneration (ending new : Live) : Live :=
  { new with generation := if liveDiffers ending new then ending.generation + 1 else ending.generation }

/-- The sealed queue and live price state after the batches of a boundary: untouched while the hold flag is set (R92). -/
def Stager.applied (g : Stager) (reading : Option Nat) (l : Live) : List Batch × Live :=
  if g.hold then (g.sealed, l) else applyQueue reading g.sealed l

/-- The new frame's live price state (R92 to R95): due batches, then the immediate list, then the live book, then the
generation. -/
def newLive (s : State) : Live :=
  let afterBatches := (s.stager.applied s.timeBase.reading s.live).2
  let afterStatus := s.stager.immediate.foldl applyStatus afterBatches
  settleGeneration s.live { afterStatus with liveBook := liveBookFor s.setup.schedule s.timeBase.daypart }

/-- The Change Stager at a frame boundary, after the Time Base has settled the reading and the daypart (R92 to R95). -/
def stagerBoundary (s : State) : State :=
  (s.setLive (newLive s)).setStager { s.stager with
    sealed := (s.stager.applied s.timeBase.reading s.live).1
    immediate := [] }

/-! ## Packets -/

/-- STAGE checked in the order of R79: length, then every record, then room in the pool. -/
def stage (payload : List Byte) (s : State) : Except RefusalCode State :=
  if payload.length = 0 ∨ payload.length % 16 ≠ 0 then .error .badLength
  else
    match allOf parseChange (chunks 16 (payload.length / 16) payload) with
    | none => .error .badField
    | some records =>
      if s.stager.free < records.length then .error .poolFull
      else .ok (s.setStager { s.stager with openBatch := s.stager.openBatch ++ records })

/-- The apply tag of a SEAL payload: NOW, a second of the day, or out of range (R81). -/
def applyTag (n : Nat) : Option (Option Nat) :=
  if n = 0xFFFFFFFF then some none else if n < 86400 then some (some n) else none

/-- SEAL checked in the order of R81 and carried out as R82. -/
def sealBatch (payload : List Byte) (s : State) : Except RefusalCode State :=
  if payload.length ≠ 4 then .error .badLength
  else
    match applyTag (field payload 0 4) with
    | none => .error .badField
    | some tag =>
      if s.stager.openBatch = [] then .error .emptyBatch
      else if 4 ≤ s.stager.sealed.length then .error .queueFull
      else .ok (s.setStager { s.stager with
        openBatch := []
        sealed := s.stager.sealed ++ [⟨s.stager.openBatch, tag⟩] })

/-- A packet whose payload must be empty (R84, R85, R86, R188). -/
def needsEmpty (payload : List Byte) (t : State) : Except RefusalCode State :=
  if payload = [] then .ok t else .error .badLength

/-- DISCARD_OPEN (R84). -/
def discardOpen (payload : List Byte) (s : State) : Except RefusalCode State :=
  needsEmpty payload (s.setStager { s.stager with openBatch := [] })

/-- DROP_SEALED (R85). -/
def dropSealed (payload : List Byte) (s : State) : Except RefusalCode State :=
  needsEmpty payload (s.setStager { s.stager with sealed := [] })

/-- HOLD and RELEASE: the hold flag becomes `flag` (R86). -/
def setHold (flag : Bool) (payload : List Byte) (s : State) : Except RefusalCode State :=
  needsEmpty payload (s.setStager { s.stager with hold := flag })

/-- STATUS_NOW checked in the order of R87. -/
def statusNow (payload : List Byte) (s : State) : Except RefusalCode State :=
  if payload.length = 0 ∨ payload.length % 4 ≠ 0 ∨ 64 < payload.length then .error .badLength
  else
    match allOf parsePair (chunks 4 (payload.length / 4) payload) with
    | none => .error .badField
    | some pairs =>
      if 32 - pairs.length < s.stager.immediate.length then .error .queueFull
      else .ok (s.setStager { s.stager with immediate := s.stager.immediate ++ pairs })

/-! ## Commands -/

/-- STAGE (R79). -/
def execStage (payload : List Byte) (s : State) : Result := .next (settle .stage s (stage payload s))

/-- SEAL (R81, R82). -/
def execSealBatch (payload : List Byte) (s : State) : Result := .next (settle .sealBatch s (sealBatch payload s))

/-- DISCARD_OPEN (R84). -/
def execDiscardOpen (payload : List Byte) (s : State) : Result :=
  .next (settle .discardOpen s (discardOpen payload s))

/-- DROP_SEALED (R85). -/
def execDropSealed (payload : List Byte) (s : State) : Result :=
  .next (settle .dropSealed s (dropSealed payload s))

/-- HOLD (R86). -/
def execHold (payload : List Byte) (s : State) : Result := .next (settle .hold s (setHold true payload s))

/-- RELEASE (R86). -/
def execRelease (payload : List Byte) (s : State) : Result := .next (settle .release s (setHold false payload s))

/-- STATUS_NOW (R87). -/
def execStatusNow (payload : List Byte) (s : State) : Result :=
  .next (settle .statusNow s (statusNow payload s))

end Sys2Proof.Machine
end

