-- ==== Sys2Proof/Machine/TimeBase.lean ====
section
/-! DEFINITION. The Time Base (chapter 06): the clock, the daypart in effect, rotation groups. -/

namespace Sys2Proof.Machine

/-! ## The clock -/

/-- The clock after so many elapsed microseconds: it runs only while SET, the seconds carry and return to 0 at midnight
(R98). -/
def TimeBase.advance (t : TimeBase) (n : Nat) : TimeBase :=
  if t.clockSet then
    { t with
      micros := (t.micros + n) % 1000000
      seconds := (t.seconds + (t.micros + n) / 1000000) % 86400 }
  else t

/-- SET_TIME checked in the order of R99. While the part is in reset the clock stays UNSET and at rest (R98): one that
passes the checks there leaves it so. R17 lets no packet arrive in reset; that one sent there is checked and refused like
any other is the model's choice (log entry 6). -/
def setTime (payload : List Byte) (s : State) : Except RefusalCode State :=
  if payload.length ≠ 8 then .error .badLength
  else if 86399 < field payload 0 4 ∨ 999999 < field payload 4 4 then .error .badField
  else if s.timing.inReset then .ok s
  else .ok (s.setTimeBase { s.timeBase with
    clockSet := true, seconds := field payload 0 4, micros := field payload 4 4 })

/-! ## Dayparts -/

/-- The SCHEDULE entries in order. -/
def scheduleNumbers : List (Fin 8) := [0, 1, 2, 3, 4, 5, 6, 7]

/-- The entry with the largest start minute, the lower number among equals (R102, R103). -/
def latestStart (schedule : Table ScheduleEntry.initial) : List (Fin 8) → Option (Fin 8)
  | [] => none
  | k :: ks =>
    match latestStart schedule ks with
    | none => some k
    | some j => if (schedule.read k.val).start < (schedule.read j.val).start then some j else some k

/-- The daypart in effect for a boundary reading (R102, R103): none while the clock is UNSET or nothing is enabled; else
the latest enabled start at or below the minute, or, with none, the latest of all. -/
def daypartAt (schedule : Table ScheduleEntry.initial) (reading : Option Nat) : Option (Fin 8) :=
  match reading with
  | none => none
  | some seconds =>
    let enabled := scheduleNumbers.filter fun k => (schedule.read k.val).enabled
    let begun := enabled.filter fun k => decide ((schedule.read k.val).start.val ≤ seconds / 60)
    match latestStart schedule begun with
    | some k => some k
    | none => latestStart schedule enabled

/-! ## Rotation groups -/

/-- The leader that a group follows, if it is a follower: the group its leader field names, when that is another group
with no leader of its own (R106). -/
def leaderOf (groups : Table GroupEntry.initial) (g : Nat) : Option Nat :=
  match (groups.read g).leader with
  | none => none
  | some h => if h.val ≠ g ∧ (groups.read h.val).leader = none then some h.val else none

/-- The leader field names a group that cannot be followed (R106). -/
def leaderIsBad (groups : Table GroupEntry.initial) (g : Nat) : Bool :=
  (groups.read g).leader.isSome && (leaderOf groups g).isNone

/-- A position of a group's member list qualifies when its item is AVAILABLE in the ending frame's live state (R109). -/
def qualifies (items : Table Item.initial) (e : GroupEntry) (position : Nat) : Bool :=
  (items.read (e.member position).val).status == .available

/-- The positions a skipping step searches, in order (R109). -/
def candidates (e : GroupEntry) (index : Nat) : List Nat :=
  match e.mode with
  | .repeating => (List.range e.count).drop (index + 1) ++ (List.range e.count).take index
  | .oneShot => (List.range e.count).drop (index + 1)

/-- A step of a group (R108, R109). -/
def stepRun (items : Table Item.initial) (e : GroupEntry) (r : GroupRun) : GroupRun :=
  if e.mode = .oneShot ∧ e.count ≤ r.index + 1 then { r with stopped := true }
  else if e.skipUnavailable then
    match (candidates e r.index).find? (qualifies items e) with
    | some i => { r with index := i }
    | none => r
  else if r.index + 1 < e.count then { r with index := r.index + 1 }
  else { r with index := 0 }

/-- Neither restart pending nor stopped: the group may count or step (R107, R110). -/
def GroupRun.moving (r : GroupRun) : Bool := !r.pending && !r.stopped

/-- An independent group whose count reaches its dwell at this boundary takes a step (R107). -/
def stepsAtBoundary (groups : Table GroupEntry.initial) (runs : Table GroupRun.initial) (g : Nat) : Bool :=
  (leaderOf groups g).isNone && (runs.read g).moving
    && decide ((runs.read g).count + 1 = (groups.read g).dwell.toNat)

/-- A group moved on by one frame: an independent group counts and steps at its dwell (R107), a follower steps when its
leader does (R110), a group whose restart is pending does neither (R111). -/
def movedRun (groups : Table GroupEntry.initial) (items : Table Item.initial) (runs : Table GroupRun.initial)
    (g : Nat) : GroupRun :=
  let r := runs.read g
  let e := groups.read g
  if r.moving then
    match leaderOf groups g with
    | none =>
      if r.count + 1 = e.dwell.toNat then { stepRun items e r with count := 0 } else { r with count := r.count + 1 }
    | some h => if stepsAtBoundary groups runs h then stepRun items e r else r
  else r

/-- A group's runtime record after a frame boundary: moved on, restart pending no, BAD_LEADER sorted afresh (R106,
R107, R110, R111). -/
def boundaryRun (groups : Table GroupEntry.initial) (items : Table Item.initial) (runs : Table GroupRun.initial)
    (g : Nat) : GroupRun :=
  { movedRun groups items runs g with pending := false, badLeader := leaderIsBad groups g }

/-- The current member of a group (R112). -/
def currentMember (groups : Table GroupEntry.initial) (runs : Table GroupRun.initial) (g : Nat) : Fin 1024 :=
  (groups.read g).member (runs.read g).index

/-- The boundary reading (R100). -/
def TimeBase.boundaryReading (t : TimeBase) : Option Nat := if t.clockSet then some t.seconds else none

/-- The Time Base at a frame boundary: it takes the boundary reading (R100), evaluates the schedule (R102) and moves the
groups on by the ending frame's live state (R59, R107). -/
def timeBaseBoundary (s : State) : State :=
  s.setTimeBase { s.timeBase with
    reading := s.timeBase.boundaryReading
    daypart := daypartAt s.setup.schedule s.timeBase.boundaryReading
    runs := Table.ofFn 16 (boundaryRun s.setup.groups s.live.items s.timeBase.runs) }

/-- A runtime record reset (R50, R113): index 0, count 0, not stopped, restart pending; BAD_LEADER left. -/
def GroupRun.restart (r : GroupRun) : GroupRun :=
  { r with index := 0, count := 0, stopped := false, pending := true }

/-- The runtime records after a restart of group `g`: `g` and its followers reset (R113). -/
def restartGroup (groups : Table GroupEntry.initial) (runs : Table GroupRun.initial) (g : Nat) : Table GroupRun.initial :=
  Table.ofFn 16 fun f => if f = g ∨ leaderOf groups f = some g then (runs.read f).restart else runs.read f

/-- The runtime records after a restart of every group (R113). -/
def restartAll (runs : Table GroupRun.initial) : Table GroupRun.initial :=
  Table.ofFn 16 fun f => (runs.read f).restart

/-- GROUP_RESTART checked in the order of R113. -/
def groupRestart (payload : List Byte) (s : State) : Except RefusalCode State :=
  if payload.length ≠ 1 then .error .badLength
  else if byteAt payload 0 = 255 then
    .ok (s.setTimeBase { s.timeBase with runs := restartAll s.timeBase.runs })
  else if 16 ≤ (byteAt payload 0).toNat then .error .badField
  else
    .ok (s.setTimeBase { s.timeBase with
      runs := restartGroup s.setup.groups s.timeBase.runs (byteAt payload 0).toNat })

/-- The runtime records after the step of an independent group whose count has reached its dwell: the group steps and
its count returns to 0, and its followers step with it (R107, R110). -/
def groupStepRuns (groups : Table GroupEntry.initial) (items : Table Item.initial) (runs : Table GroupRun.initial)
    (g : Nat) : Table GroupRun.initial :=
  Table.ofFn 16 fun f =>
    if f = g then { stepRun items (groups.read g) (runs.read g) with count := 0 }
    else if leaderOf groups f = some g ∧ (runs.read f).moving then stepRun items (groups.read f) (runs.read f)
    else runs.read f

/-- An independent, moving group whose dwell count has reached its dwell (R107). -/
def groupIsDue (s : State) (g : Nat) : Bool :=
  (leaderOf s.setup.groups g).isNone && (s.timeBase.runs.read g).moving
    && decide ((s.setup.groups.read g).dwell.toNat ≤ (s.timeBase.runs.read g).count)

/-! ## Commands -/

/-- SET_TIME (R99). -/
def execSetTime (payload : List Byte) (s : State) : Result :=
  .next (settle .setTime s (setTime payload s))

/-- GROUP_RESTART (R113). -/
def execGroupRestart (payload : List Byte) (s : State) : Result :=
  .next (settle .groupRestart s (groupRestart payload s))

/-- GROUP_STEP (R107): the step of a group whose count has reached its dwell. A frame boundary takes such a step itself
(`movedRun`), so no count stands at its dwell between commands (log entry 9). -/
def execGroupStep (group : Fin 16) (s : State) : Result :=
  .next (if groupIsDue s group.val then
    s.setTimeBase { s.timeBase with
      runs := groupStepRuns s.setup.groups s.live.items s.timeBase.runs group.val }
  else s)

/-- CLOCK_ADVANCE (R98): the reference oscillator runs on, and the clock with it while SET, but not in reset. -/
def execClockAdvance (micros : Nat) (s : State) : Result :=
  .next ((s.setNow (s.now + micros)).setTimeBase
    (if s.timing.inReset then s.timeBase else s.timeBase.advance micros))

end Sys2Proof.Machine
end

