-- ==== Sys2Proof/Machine/Tables.lean ====
section
/-! DEFINITION. The Table Loader (chapter 03): SELECT, WRITE, and the entries a READ returns. -/

namespace Sys2Proof.Machine

/-! ## SELECT -/

/-- SELECT checked and carried out as R37 gives. -/
def select (payload : List Byte) (s : State) : Except RefusalCode State :=
  if payload.length ≠ 4 then .error .badLength
  else
    match TableId.ofNumber (byteAt payload 0).toNat with
    | none => .error .badField
    | some table =>
      if field payload 1 3 < table.entries then
        .ok (s.setSetup { s.setup with cursor := some ⟨table, field payload 1 3⟩ })
      else .error .badField

/-! ## WRITE -/

/-- Writing an entry at an index belongs to a font in use, or is the entry of a tile in use (R38, R39). -/
def entryInUse (s : State) (table : TableId) (index : Nat) : Bool :=
  match table with
  | .fontMetrics => fontInUse s (metricFont index)
  | .glyphs f => fontInUse s f.val
  | .tiles => tileInUse s (BitVec.ofNat 8 index)
  | _ => false

/-- The setup tables with one entry replaced, its fields checked and clamped as its table's rule says; none when a field
fails (R40, R43 to R51). -/
def putEntry (table : TableId) (index : Nat) (e : List Byte) (u : Setup) : Option Setup :=
  match table with
  | .canvas => (decodeCanvas e).map fun c => { u with canvas := c }
  | .heads => (decodeHead e).map fun h => { u with heads := u.heads.write index h }
  | .slots => (decodeSlot e).map fun x => { u with slots := u.slots.write index x }
  | .formats => (decodeFormat e).map fun f => { u with formats := u.formats.write index f }
  | .fontMetrics =>
    if index % 26 = 0 then
      some { u with fontHeights := u.fontHeights.write (metricFont index) (decodeFontHeight e) }
    else
      (decodeMetric e).map fun m =>
        { u with metrics := u.metrics.write (metricIndex (metricFont index) (index % 26 - 1)) m }
  | .glyphs f => some { u with glyphs := u.glyphs.write (glyphIndex f.val index) (byteAt e 0) }
  | .schedule => (decodeSchedule e).map fun x => { u with schedule := u.schedule.write index x }
  | .groups => (decodeGroup e).map fun g => { u with groups := u.groups.write index g }
  | .tiles => (decodeTile e).map fun t => { u with tiles := u.tiles.write index t }
  | _ => none

/-- What writing an entry does beside the table: a GROUPS entry resets its group's runtime record (R50, R105), a TILES
entry empties its tile (R51, R154). -/
def writeEffect (table : TableId) (index : Nat) (s : State) : State :=
  match table with
  | .groups =>
    s.setTimeBase { s.timeBase with
      runs := s.timeBase.runs.write index (s.timeBase.runs.read index).restart }
  | .tiles => s.setPictures (s.pictures.setTile (BitVec.ofNat 8 index) TileRecord.initial)
  | _ => s

/-- The entries of a WRITE carried out one by one from an index: the state and the index after them, and the refusal
that ended them, if one did (R40). -/
def writeEntries (table : TableId) : List (List Byte) → Nat → State → State × Nat × Option RefusalCode
  | [], index, s => (s, index, none)
  | e :: rest, index, s =>
    if table.entries ≤ index then (s, index, some .tableEnd)
    else
      match putEntry table index e s.setup with
      | none => (s, index, some .badField)
      | some u => writeEntries table rest (index + 1) (writeEffect table index (s.setSetup u))

/-- The state after a WRITE's entries, with the cursor where they left it (R40). -/
def placeCursor (table : TableId) (r : State × Nat × Option RefusalCode) : State :=
  r.1.setSetup { r.1.setup with cursor := some ⟨table, r.2.1⟩ }

/-- The refusal a WRITE draws once its entries are carried out: the one that ended them, or BAD_LENGTH for a trailing
part (R40). -/
def writeRefusal (trailing : Nat) (ended : Option RefusalCode) : Option RefusalCode :=
  match ended with
  | some code => some code
  | none => if trailing = 0 then none else some .badLength

/-- Any complete entry of a WRITE that would land inside the table is in use (R39). -/
def writeInUse (s : State) (table : TableId) (index count : Nat) : Bool :=
  (List.range count).any fun k => decide (index + k < table.entries) && entryInUse s table (index + k)

/-- WRITE: the three tests of R39 in order, then the entries as R40 gives. -/
def write (payload : List Byte) (s : State) : State :=
  match s.setup.cursor with
  | none => refuse .notOpen .write s
  | some cursor =>
    if cursor.table.readOnly then refuse .stagedOnly .write s
    else
      let size := cursor.table.entryBytes
      let count := payload.length / size
      if writeInUse s cursor.table cursor.index count then refuse .inUse .write s
      else
        let r := writeEntries cursor.table (chunks size count payload) cursor.index s
        match writeRefusal (payload.length % size) r.2.2 with
        | none => placeCursor cursor.table r
        | some code => refuse code .write (placeCursor cursor.table r)

/-! ## Reading -/

/-- The entry of a table at an index, in its layout (R41, R54 to R57): the setup tables as stored, the read-only tables
as their owners hold their state. -/
def readEntry (s : State) (table : TableId) (index : Nat) : List Byte :=
  match table with
  | .canvas => encodeCanvas s.setup.canvas
  | .heads => encodeHead (s.setup.heads.read index)
  | .slots => encodeSlot (s.setup.slots.read index)
  | .formats => encodeFormat (s.setup.formats.read index)
  | .fontMetrics =>
    if index % 26 = 0 then encodeFontHeight (s.setup.fontHeights.read (metricFont index))
    else encodeMetric (s.setup.metrics.read (metricIndex (metricFont index) (index % 26 - 1)))
  | .glyphs f => [s.setup.glyphs.read (glyphIndex f.val index)]
  | .schedule => encodeSchedule (s.setup.schedule.read index)
  | .groups => encodeGroup (s.setup.groups.read index)
  | .tiles => encodeTile (s.setup.tiles.read index)
  | .items => encodeItem (s.live.items.read index)
  | .book b => encodePrice (s.live.price b index)
  | .bindings => encodeBinding (s.live.bindings.read index)
  | .render => encodeRender (s.engine.published.read index)
  | .groupState => encodeRun (s.timeBase.runs.read index)

/-- Consecutive entries of a table, in index order (R41). -/
def readEntries (s : State) (table : TableId) (first count : Nat) : List Byte :=
  ((List.range count).map fun k => readEntry s table (first + k)).flatten

/-- How many entries a READ of count `n` will carry from a cursor (R41): the least of `n`, what fits in 248 bytes, and
what the table still has. At the table end that is none. -/
def readCount (c : Cursor) (n : Nat) : Nat :=
  min n (min (248 / c.table.entryBytes) (c.table.entries - c.index))

/-- What a READ of count `n` fixes at its acceptance (R41). -/
def readContent (cursor : Option Cursor) (n : Nat) : ReplyContent :=
  match cursor with
  | none => .read none 0 0
  | some c => .read (some c.table) c.index (readCount c n)

/-- The cursor after a READ of count `n` (R41). -/
def advanceCursor (cursor : Option Cursor) (n : Nat) : Option Cursor :=
  cursor.map fun c => { c with index := c.index + readCount c n }

/-! ## Commands -/

/-- SELECT (R37). -/
def execSelect (payload : List Byte) (s : State) : Result := .next (settle .select s (select payload s))

/-- WRITE (R39, R40). -/
def execWrite (payload : List Byte) (s : State) : Result := .next (write payload s)

end Sys2Proof.Machine
end

