-- ==== Sys2Proof/Machine/StatusPort.lean ====
section
/-! DEFINITION. The Status Line Port (chapter 11): the node number, queries, the wait, the reply frame, readback, the
STATUS payload, and clearing the counters. -/

namespace Sys2Proof.Machine

/-! ## The check (R6) -/

/-- The CRC register shifted by one place (R6). -/
def crcShift (c : Word16) : Word16 := if c.msb then (c <<< 1) ^^^ 0x1021#16 else c <<< 1

/-- The CRC register after so many places. -/
def crcShifts : Nat → Word16 → Word16
  | 0, c => c
  | n + 1, c => crcShifts n (crcShift c)

/-- A byte folded into the CRC register (R6). -/
def crcByte (c : Word16) (b : Byte) : Word16 := crcShifts 8 (c ^^^ (b.setWidth 16 <<< 8))

/-- The check of a run of bytes (R6). -/
def crc (bytes : List Byte) : Word16 := bytes.foldl crcByte 0xFFFF#16

/-! ## SET_NODE (R182) -/

/-- SET_NODE checked in the order of R182. -/
def setNode (broadcast : Bool) (payload : List Byte) (s : State) : Except RefusalCode State :=
  if broadcast then .error .badField
  else if payload.length ≠ 1 then .error .badLength
  else
    match finOf 8 (byteAt payload 0).toNat with
    | none => .error .badField
    | some n => .ok (s.setPort { s.port with node := n })

/-! ## QUERY (R183) -/

/-- The wait deadline lies 5 ms after the acceptance (R184). -/
def replyWait : Nat := 5000

/-- A QUERY accepted: the reply waits, its node fixed, quiet counted from 0, the bit times of the readings from now
(R183, R184). -/
def acceptQuery (content : ReplyContent) (s : State) : State :=
  s.setPort { s.port with reply := .waiting s.port.node content (s.now + replyWait) 0 s.now }

/-- A READ accepted: its entries are fixed and the cursor moves past them (R41, R183). -/
def acceptRead (n : Nat) (s : State) : State :=
  acceptQuery (readContent s.setup.cursor n)
    (s.setSetup { s.setup with cursor := advanceCursor s.setup.cursor n })

/-- QUERY checked in the order of R183. -/
def query (broadcast : Bool) (payload : List Byte) (s : State) : Except RefusalCode State :=
  if broadcast then .error .broadcastQuery
  else
    match payload with
    | [] => .error .badLength
    | kind :: rest =>
      if 1 < kind.toNat then .error .badField
      else if rest.length ≠ kind.toNat then .error .badLength
      else if s.port.reply ≠ .idle then .error .replyBusy
      else if kind = 0 then .ok (acceptQuery .status s)
      else .ok (acceptRead (byteAt rest 0).toNat s)

/-! ## The STATUS payload (R187) -/

/-- A lock state's number (R187). -/
def LockState.number : LockState → Nat
  | .noInput => 0
  | .acquiring => 1
  | .locked => 2
  | .mismatch => 3
  | .holdover => 4

/-- A channel state's number (R187). -/
def ChannelState.number : ChannelState → Nat
  | .idle => 0
  | .opened => 1
  | .ending => 2

/-- A load channel's six bytes of the payload (R155, R187). -/
def channelBytes (x : Channel) : List Byte := leBytes 1 x.state.number ++ [x.tile] ++ leBytes 4 x.received

/-- The last refusal's two bytes: code 0 with kind 0x00 when there is none (R14, R187). -/
def refusalBytes : Option (RefusalCode × Byte) → List Byte
  | none => [0, 0]
  | some (code, kind) => [code.code, kind]

/-- The Carrier Receiver's fourteen bytes of the payload: the five discards, accepted packets, refusals (R187). -/
def receiverBytes (r : Receiver) : List Byte :=
  word16Bytes r.symbolErrors ++ word16Bytes r.aborted ++ word16Bytes r.truncated ++ word16Bytes r.overlength
    ++ word16Bytes r.badCheck ++ word16Bytes r.accepted ++ word16Bytes r.refusals

/-- The Fetch Unit's eight bytes of the payload (R168, R187). -/
def fetchBytes (f : Fetch) : List Byte :=
  word16Bytes f.underruns ++ word16Bytes f.oversubscribed ++ word16Bytes f.corrected ++ word16Bytes f.uncorrectable

/-- The Change Stager's four counts (R96, R187). -/
def stagerBytes (g : Stager) : List Byte :=
  leBytes 1 g.openBatch.length ++ leBytes 1 g.free ++ leBytes 1 g.sealed.length ++ leBytes 1 g.immediate.length

/-- The daypart byte: 255 for none (R187). -/
def daypartByte : Option (Fin 8) → Byte
  | none => 255
  | some k => BitVec.ofNat 8 k.val

/-- The 64 bytes of a STATUS payload (R187). -/
def statusPayload (s : State) : List Byte :=
  leBytes 1 s.port.node.val ++ leBytes 1 s.timing.lock.number ++ leBytes 1 (bit s.timeBase.clockSet)
    ++ leBytes 1 (bit s.stager.hold) ++ leBytes 4 s.timeBase.seconds ++ leBytes 4 s.timeBase.micros
    ++ word16Bytes s.live.generation ++ leBytes 1 s.live.liveBook.val ++ [daypartByte s.timeBase.daypart]
    ++ stagerBytes s.stager ++ channelBytes s.pictures.channelA ++ channelBytes s.pictures.channelB
    ++ receiverBytes s.receiver ++ fetchBytes s.fetch ++ word16Bytes s.pictures.stalls
    ++ word16Bytes s.pictures.surplus ++ word16Bytes s.port.collisions ++ word16Bytes s.port.replyTimeouts
    ++ refusalBytes s.receiver.lastRefusal

/-! ## The reply frame (R185) -/

/-- The reply kind: 0x01 STATUS, 0x02 READ (R185). -/
def ReplyContent.kind : ReplyContent → Byte
  | .status => 0x01
  | .read _ _ _ => 0x02

/-- The payload of a reply, taken at its snapshot (R41, R185). -/
def replyPayload (s : State) : ReplyContent → List Byte
  | .status => statusPayload s
  | .read none _ _ => []
  | .read (some table) first count => readEntries s table first count

/-- A reply frame: node, kind, length, payload, and the check over them, low byte first (R185). -/
def replyFrame (node : Fin 8) (kind : Byte) (payload : List Byte) : List Byte :=
  let body := [BitVec.ofNat 8 node.val, kind, BitVec.ofNat 8 payload.length] ++ payload
  body ++ word16Bytes (crc body)

/-- A byte on the line: a start bit of 0, eight bits with the least significant first, a stop bit of 1 (R185). -/
def byteBits (b : Byte) : List Bool :=
  [false, b.getLsbD 0, b.getLsbD 1, b.getLsbD 2, b.getLsbD 3, b.getLsbD 4, b.getLsbD 5, b.getLsbD 6, b.getLsbD 7, true]

/-- A frame on the line, bytes back to back (R185). -/
def frameBits (frame : List Byte) : List Bool := frame.flatMap byteBits

/-- The bit being sent: 2 µs after 2 µs from the frame's first (R185). -/
def sendingBit (frame : List Byte) (startedAt now : Nat) : Option Bool := (frameBits frame)[(now - startedAt) / 2]?

/-- The port pulls the status line low: it is sending a 0 bit (R185). In reset it does not drive the line (R189). -/
def drivesLow (s : State) : Bool :=
  match s.port.reply with
  | .sending frame startedAt => !s.timing.inReset && sendingBit frame startedAt s.now == some false
  | _ => false

/-! ## The wait for an idle line (R184) -/

/-- The quiet count that makes the line idle (R184). -/
def quietBound : Nat := 20

/-- The quiet count after further readings: high adds one, low sets it to 0; at 20 the line is idle and the count stands
(R184). -/
def countQuiet : Nat → List Bool → Nat
  | q, [] => q
  | q, high :: rest => if quietBound ≤ q then q else countQuiet (if high then q + 1 else 0) rest

/-- A bit time of the status line, in microseconds: the port reads the line once in each (R184). -/
def bitTime : Nat := 2

/-- The readings that the bit times passed since the last reading leave room for, of those offered (R184, log entry
20). -/
def readingsDue (s : State) (readAt : Nat) (readings : List Bool) : List Bool :=
  readings.take ((s.now - readAt) / bitTime)

/-- The reply starts: the snapshot is taken and the frame built (R184, R185). -/
def startReply (node : Fin 8) (content : ReplyContent) (s : State) : State :=
  s.setPort { s.port with
    reply := .sending (replyFrame node content.kind (replyPayload s content)) s.now }

/-! ## Commands -/

/-- QUERY_STATUS (R183): a QUERY that does not ask for a READ. -/
def execQueryStatus (broadcast : Bool) (payload : List Byte) (s : State) : Result :=
  .next (settle .query s (query broadcast payload s))

/-- QUERY_READ (R41, R183): a QUERY of type READ. -/
def execQueryRead (broadcast : Bool) (payload : List Byte) (s : State) : Result :=
  .next (settle .query s (query broadcast payload s))

/-- SET_NODE (R182). -/
def execSetNode (broadcast : Bool) (payload : List Byte) (s : State) : Result :=
  .next (settle .setNode s (setNode broadcast payload s))

/-- Every counter of the part and the last refusal cleared (R188). -/
def clearAllCounters (s : State) : State :=
  (((s.setReceiver s.receiver.clearCounters).setFetch s.fetch.clearCounters).setPictures
    s.pictures.clearCounters).setPort s.port.clearCounters

/-- CLEAR_COUNTERS checked as R188 gives. -/
def clearCounters (payload : List Byte) (s : State) : Except RefusalCode State :=
  needsEmpty payload (clearAllCounters s)

/-- CLEAR_COUNTERS (R188). -/
def execClearCounters (payload : List Byte) (s : State) : Result :=
  .next (settle .clearCounters s (clearCounters payload s))

/-- The port counts readings of the line, one for each bit time since the last; at 20, and not past the deadline, the
reply starts (R184, R185). -/
def countReadings (readings : List Bool) (s : State) : State :=
  match s.port.reply with
  | .waiting node content deadline quiet readAt =>
    let due := readingsDue s readAt readings
    if quietBound ≤ countQuiet quiet due ∧ s.now ≤ deadline then startReply node content s
    else s.setPort { s.port with
      reply := .waiting node content deadline (countQuiet quiet due) (readAt + bitTime * due.length) }
  | _ => s

/-- REPLY_START (R184, R185). In reset no reply starts: the line is not driven (R189). -/
def execReplyStart (readings : List Bool) (s : State) : Result :=
  .next (if s.timing.inReset then s else countReadings readings s)

/-- REPLY_TIMEOUT (R184): the deadline passes before the line is idle; the reply is dropped and counted. -/
def execReplyTimeout (s : State) : Result :=
  .next (match s.port.reply with
    | .waiting _ _ deadline _ _ =>
      if deadline ≤ s.now then
        s.setPort { s.port with reply := .idle, replyTimeouts := bump s.port.replyTimeouts }
      else s
    | _ => s)

/-- COLLISION (R186): the line reads low in the bit being sent. In a 1 bit the port stops, drops the reply and counts;
a 0 bit reads low whatever the other parts do, and nothing happens. -/
def execCollision (s : State) : Result :=
  .next (match s.port.reply with
    | .sending frame startedAt =>
      if sendingBit frame startedAt s.now = some true then
        s.setPort { s.port with reply := .idle, collisions := bump s.port.collisions }
      else s
    | _ => s)

/-- REPLY_END (R185): twenty microseconds for each byte have passed since the frame's first bit; the line is released
and the reply state becomes IDLE. -/
def execReplyEnd (s : State) : Result :=
  .next (match s.port.reply with
    | .sending frame startedAt =>
      if startedAt + 20 * frame.length ≤ s.now then s.setPort { s.port with reply := .idle } else s
    | _ => s)

end Sys2Proof.Machine
end

