-- ==== Sys2Proof/Machine/Pricing.lean ====
section
/-! DEFINITION. The Price Engine (chapters 04 and 07): what each slot shows, the price arithmetic, the glyph run, its fit
and its placement. -/

namespace Sys2Proof.Machine

/-! ## What each slot shows (R67 to R71) -/

/-- The item a slot's binding names at the boundary, whether or not the slot is visible (R68). -/
def namedItem (p : Snapshot) (slot : Nat) : Option (Fin 1024) :=
  match (p.live.bindings.read slot).source with
  | .none => none
  | .item n => some n
  | .group g => some (p.members.read g.val)

/-- The daypart mask of a slot admits the daypart in effect (R67). -/
def daypartAdmits (daypart : Option (Fin 8)) (mask : Byte) : Bool :=
  match daypart with
  | none => true
  | some k => mask.getLsbD k.val

/-- The item has status HIDDEN in the new frame's live state. -/
def hiddenItem (p : Snapshot) (item : Option (Fin 1024)) : Bool :=
  match item with
  | none => false
  | some n => (p.live.items.read n.val).status == .hidden

/-- A slot is visible: active, of non-zero size, admitted by its daypart mask, its item not HIDDEN (R67). -/
def slotVisible (p : Snapshot) (slot : Nat) : Bool :=
  (p.live.bindings.read slot).active && (p.slots.read slot).w != 0 && (p.slots.read slot).h != 0
    && daypartAdmits p.daypart (p.slots.read slot).dayparts && !hiddenItem p (namedItem p slot)

/-- The sold-out tile replaces the tile: item SOLD_OUT, treatment ALT_TILE, sold-out tile present (R69). -/
def altTileShown (i : Item) (t : Treatment) : Bool :=
  i.status == .soldOut && t == .altTile && i.soldOutTile.isSome

/-- A visible slot's shown tile (R69). -/
def shownTile (p : Snapshot) (slot : Nat) : Option Byte :=
  match (p.live.bindings.read slot).tileChoice with
  | .fixed t => some t
  | .noTile => none
  | .itemTile =>
    match namedItem p slot with
    | none => none
    | some n =>
      let i := p.live.items.read n.val
      if altTileShown i (p.slots.read slot).treatment then i.soldOutTile else i.tile

/-- A visible slot's treatment applied (R70). -/
def appliedTreatment (p : Snapshot) (slot : Nat) : Applied :=
  match namedItem p slot with
  | none => .none
  | some n =>
    let i := p.live.items.read n.val
    let e := p.slots.read slot
    if i.status = .soldOut then
      match e.treatment with
      | .none => .none
      | .dim => .dim e.d
      | .grey => .grey
      | .altTile =>
        if altTileShown i e.treatment ∧ (p.live.bindings.read slot).tileChoice = .itemTile then .altTile else .none
    else .none

/-- A slot's record as the boundary settles it (R71, R119): complete for an invisible slot and for source NONE; for the
others the computed fields wait for the completion event (log entry 14). -/
def settledRecord (p : Snapshot) (slot : Nat) : RenderRecord :=
  if slotVisible p slot then
    { RenderRecord.initial with
      visible := true
      item := namedItem p slot
      tile := shownTile p slot
      applied := appliedTreatment p slot
      generation := p.live.generation }
  else { RenderRecord.initial with generation := p.live.generation }

/-! ## The arithmetic (R122 to R126) -/

/-- Stage 1: the modifier (R123). -/
def applyModifier (price : Nat) : Modifier → Nat
  | .none => price
  | .percentOff m => price - price * m.val / 1000
  | .amountOff a => price - a.val
  | .fixed f => f.val

/-- Stage 2: the tax (R124). -/
def applyTax (f : FormatEntry) (q : Nat) : Nat :=
  match f.taxMode with
  | .exclusive => q
  | .inclusive => (q * (10000 + f.rate.val) + 5000) / 10000

/-- Stage 3: the display rounding (R125). -/
def applyRounding (f : FormatEntry) (t : Nat) : Nat :=
  let g := f.granularity.units
  match f.rounding with
  | .exact => t
  | .nearest => (t + g / 2) / g * g
  | .up => (t + g - 1) / g * g
  | .charm => t - t % 10 + 9

/-- Stage 4: the display value, at most 99999 (R126). -/
def saturate (r : Nat) : Nat := if 99999 < r then 99999 else r

/-- The rounded value before saturation, through stages 1 to 3. -/
def roundedValue (f : FormatEntry) (m : Modifier) (price : Nat) : Nat :=
  applyRounding f (applyTax f (applyModifier price m))

/-! ## The digit string (R127, R128) -/

/-- Glyph code of the separator (R46, Fonts). -/
def separatorCode : Nat := 20
/-- Glyph code of the currency sign. -/
def currencyCode : Nat := 21
/-- Glyph code of the dash. -/
def dashCode : Nat := 22
/-- Glyph code of the sold-out mark. -/
def soldOutCode : Nat := 23
/-- Glyph code of the zero-price mark. -/
def zeroCode : Nat := 24

/-- The decimal digits of a number below 100000, most significant first, without leading zeros. -/
def digits (n : Nat) : List Nat :=
  if n < 10 then [n]
  else if n < 100 then [n / 10, n % 10]
  else if n < 1000 then [n / 100, n / 10 % 10, n % 10]
  else if n < 10000 then [n / 1000, n / 100 % 10, n / 10 % 10, n % 10]
  else [n / 10000, n / 1000 % 10, n / 100 % 10, n / 10 % 10, n % 10]

/-- The fraction of a two-decimal price (R127). -/
def fraction (f : FormatEntry) (cents : Nat) : List Nat :=
  if f.dropZeroFraction ∧ cents = 0 then []
  else if f.raised then [10 + cents / 10, 10 + cents % 10]
  else [separatorCode, cents / 10, cents % 10]

/-- The sequence of digits of a display value (R127, R128). -/
def digitSequence (f : FormatEntry) (d : Nat) : List Nat :=
  match f.decimals with
  | .two => digits (d / 100) ++ fraction f (d % 100)
  | .zero => digits d

/-- The sequence with its currency sign (R128). -/
def withCurrency (c : Currency) (sequence : List Nat) : List Nat :=
  match c with
  | .none => sequence
  | .before => currencyCode :: sequence
  | .after => sequence ++ [currencyCode]

/-- The run of a display value: the zero-price mark, or the sequence with its sign (R128). -/
def priceRun (f : FormatEntry) (d : Nat) : List Nat :=
  if d = 0 ∧ f.zeroMark then [zeroCode] else withCurrency f.currency (digitSequence f d)

/-! ## The fit (R129 to R133) and placement (R134) -/

/-- A font as the snapshot holds it: its height, and the metric of each glyph code (R129). -/
structure FontView where
  height : Nat
  metrics : Table Metric.initial
  font : Nat

/-- The font of a slot in a snapshot (R118, R129). -/
def Snapshot.fontOf (p : Snapshot) (slot : Nat) : FontView where
  height := (p.fontHeights.read (p.slots.read slot).font.val).toNat
  metrics := p.metrics
  font := (p.slots.read slot).font.val

/-- The metric of a glyph code. -/
def FontView.metric (v : FontView) (code : Nat) : Metric := v.metrics.read (metricIndex v.font code)

/-- A glyph's width. -/
def FontView.width (v : FontView) (code : Nat) : Nat := (v.metric code).width.toNat

/-- A glyph's advance. -/
def FontView.advance (v : FontView) (code : Nat) : Nat := (v.metric code).advance.toNat

/-- The width of a run: the advances of all its glyphs but the last, plus the width of the last (R129). -/
def FontView.runWidth (v : FontView) : List Nat → Nat
  | [] => 0
  | [c] => v.width c
  | c :: rest => v.advance c + v.runWidth rest

/-- A run on its way through the fit, with the flags set so far. -/
structure Fitting where
  run : List Nat
  flags : RenderFlags
  deriving DecidableEq, Repr

/-- The dash, or nothing where the font has no dash. -/
def FontView.dash (v : FontView) : List Nat := if (v.metric dashCode).present then [dashCode] else []

/-- Fit step 1: a run with a glyph absent from the font becomes the dash, or nothing (R130). -/
def fitGlyphs (v : FontView) (x : Fitting) : Fitting :=
  if x.run.all fun c => (v.metric c).present then x
  else { run := v.dash, flags := { x.flags with glyphMissing := true } }

/-- Fit step 2: a run in a font higher than the price box becomes nothing (R131). -/
def fitHeight (v : FontView) (ph : Nat) (x : Fitting) : Fitting :=
  if x.run ≠ [] ∧ ph < v.height then { run := [], flags := { x.flags with noFit := true } } else x

/-- Fit step 3: a run too wide loses its currency sign (R132). -/
def fitCurrency (v : FontView) (pw : Nat) (x : Fitting) : Fitting :=
  if pw < v.runWidth x.run ∧ currencyCode ∈ x.run then
    { run := x.run.filter (fun c => c != currencyCode), flags := { x.flags with currencyDropped := true } }
  else x

/-- Fit step 4: a run still too wide becomes the dash, or nothing where the dash is absent or too wide itself (R133). -/
def fitWidth (v : FontView) (pw : Nat) (x : Fitting) : Fitting :=
  if pw < v.runWidth x.run then
    { run := if pw < v.width dashCode then [] else v.dash, flags := { x.flags with overflow := true } }
  else x

/-- The four fit steps in order (R130 to R133). A run that a step has emptied passes the later steps unchanged. -/
def fitRun (v : FontView) (pw ph : Nat) (x : Fitting) : Fitting :=
  fitWidth v pw (fitCurrency v pw (fitHeight v ph (fitGlyphs v x)))

/-- The x offset of a run in its box (R134). -/
def alignOffset (a : Alignment) (pw width : Nat) : Nat :=
  match a with
  | .left => 0
  | .right => pw - width
  | .center => (pw - width) / 2

/-- The run before the fit and the display value (stages 0 to 5, R122 to R128). -/
def computeRun (f : FormatEntry) (i : Item) (price : Option Price) : Nat × Fitting :=
  if i.status = .soldOut then (0, ⟨[soldOutCode], { RenderFlags.clear with soldOut := true }⟩)
  else
    match price with
    | none => (0, ⟨[dashCode], { RenderFlags.clear with noPrice := true }⟩)
    | some p =>
      let r := roundedValue f i.modifier p.val
      (saturate r, ⟨priceRun f (saturate r), { RenderFlags.clear with saturated := decide (99999 < r) }⟩)

/-- A record with its computed fields entered (R134, R135). -/
def enterRun (v : FontView) (e : SlotEntry) (display : Nat) (x : Fitting) (r : RenderRecord) : RenderRecord :=
  { r with
    display := display
    run := x.run
    xOffset := if x.run = [] then 0 else alignOffset e.alignment e.pw.toNat (v.runWidth x.run)
    yOffset := if x.run = [] then 0 else (e.ph.toNat - v.height) / 2
    flags := x.flags }

/-- A record at the completion event: a visible record with a shown item gets its computed fields from the snapshot, any
other is complete already (R119, R120, R135). -/
def completedRecord (p : Snapshot) (slot : Nat) (r : RenderRecord) : RenderRecord :=
  match r.visible, r.item with
  | true, some n =>
    let e := p.slots.read slot
    let computed := computeRun (p.formats.read e.format.val) (p.live.items.read n.val) (p.live.price p.live.liveBook n.val)
    enterRun (p.fontOf slot) e computed.1 (fitRun (p.fontOf slot) e.pw.toNat e.ph.toNat computed.2) r
  | _, _ => r

/-! ## The frame boundary and the completion event -/

/-- The snapshot a boundary takes (R118), once the live state, daypart and group members of the new frame stand. -/
def takeSnapshot (s : State) : Snapshot where
  live := s.live
  daypart := s.timeBase.daypart
  members := Table.ofFn 16 (currentMember s.setup.groups s.timeBase.runs)
  slots := s.setup.slots
  formats := s.setup.formats
  fontHeights := s.setup.fontHeights
  metrics := s.setup.metrics

/-- The Price Engine at a frame boundary: it takes its snapshot, replaces the frame records and computes; a computation
still going on is abandoned, the published records stay (R118, R119, R121). -/
def engineBoundary (s : State) : State :=
  s.setEngine { s.engine with
    snapshot := some (takeSnapshot s)
    computing := true
    frame := Table.ofFn 96 (settledRecord (takeSnapshot s)) }

/-- The frame records completed from a snapshot (R120). -/
def completeRecords (p : Snapshot) (frame : Table RenderRecord.initial) : Table RenderRecord.initial :=
  Table.ofFn 96 fun slot => completedRecord p slot (frame.read slot)

/-- The computation ends: the computed fields enter the frame records, all together, and the published records are
replaced by a copy (R120). -/
def Engine.complete (g : Engine) : Engine :=
  match g.snapshot with
  | none => g
  | some p =>
    { g with
      computing := false
      frame := completeRecords p g.frame
      published := completeRecords p g.frame }

/-- The tenth line of the frame, counted from its boundary, has ended. While the generator times the frame or its
handover wait, ten of its evenly spaced 45 + height lines have passed by the oscillator (R27, R119). Once the input
times it, its blanking lines are counted, those of a wait among them (R31), and then its active lines, among which the
tenth line of a blanked frame falls (R119, log entry 23). -/
def tenthLineEnded (s : State) : Bool :=
  match s.timing.source with
  | .input => decide (10 ≤ s.timing.blankingPassed + s.compositor.lines.length)
  | _ =>
    match s.timing.generatorFrame with
    | none => false
    | some g => decide (10 * g.period ≤ (s.now - s.timing.frameStart) * (45 + g.activeLines))

/-- COMPLETION_EVENT (R119, R120). -/
def execCompletionEvent (s : State) : Result :=
  .next (if s.engine.computing ∧ tenthLineEnded s then s.setEngine s.engine.complete else s)

end Sys2Proof.Machine
end

