-- ==== Sys2Proof/Machine/Fetching.lean ====
section
/-! DEFINITION. The Fetch Unit and the Memory Arbiter (chapter 09), with the drain of the load channels through the one
memory port (R149). -/

namespace Sys2Proof.Machine

/-! ## The span of a slot on a line (R158) -/

/-- The fetch entry of a slot on a canvas line, if the slot crosses the line and its span is not empty (R158). -/
def fetchEntry (s : State) (y slot : Nat) : Option FetchEntry :=
  let r := s.engine.frame.read slot
  match r.visible, r.tile with
  | true, some t =>
    match s.fetch.tileLatch.read t.toNat with
    | none => none
    | some rows =>
      let g := s.fetch.slots.read slot
      let e := s.setup.tiles.read t.toNat
      let left : Int := g.x.toInt + g.tx.toNat
      let row : Int := (y : Int) - (g.y.toInt + g.ty.toNat)
      if 0 ≤ row ∧ row < rows ∧ g.y.toInt ≤ y ∧ y < s.fetch.height ∧ (y : Int) < g.y.toInt + g.h.toNat then
        let low : Nat := (max 0 (max (-left) (g.x.toInt - left))).toNat
        let past : Nat :=
          (min (e.width.toNat : Int) (min ((s.fetch.width : Int) - left) (g.x.toInt + g.w.toNat - left))).toNat
        if low < past then
          let start := e.base.toNat + (row.toNat * e.width.toNat + low) * 4
          some
            { slot := slot
              tile := t
              row := row.toNat
              firstColumn := low
              lastColumn := past - 1
              canvasColumn := left + low
              first := start
              past := start + (past - low) * 4
              nextBurst := start / 32 }
        else none
      else none
  | _, _ => none

/-- The entries of every slot that crosses a line, highest slot number first (R159). -/
def crossings (s : State) (y : Nat) : List FetchEntry := slotNumbers.reverse.filterMap (fetchEntry s y)

/-- The most entries a fetch list holds (R159). -/
def fetchListBound : Nat := 24

/-- A line store's entry before anything is read for it. -/
def FetchEntry.blankStore (e : FetchEntry) : StoreEntry := ⟨e.slot, e.canvasColumn, [], false⟩

/-- The Fetch Unit with no line fetch in progress: list and pending bursts dropped, the store being filled empty. -/
def Fetch.abandon (f : Fetch) : Fetch := { f with list := [], todo := [], fetching := false, filling := [] }

/-- The fetch of a canvas line begins: its list is built, a line beyond 24 entries is counted, and an empty list is
complete at once (R159, R160, R161). -/
def beginFetch (y : Nat) (s : State) : State :=
  let entries := (crossings s y).take fetchListBound
  s.setFetch { s.fetch with
    list := entries
    todo := entries
    fetching := !entries.isEmpty
    filling := entries.map FetchEntry.blankStore
    oversubscribed :=
      if fetchListBound < (crossings s y).length then bump s.fetch.oversubscribed else s.fetch.oversubscribed }

/-- The next line's fetch begins if the frame has that line; otherwise no fetch does (R160). -/
def fetchLine (y : Nat) (s : State) : State :=
  if y < s.fetch.height then beginFetch y s else s.setFetch s.fetch.abandon

/-! ## The frame latch (R157) -/

/-- How a tile is latched at a boundary: its valid rows when READY (R157). -/
def latchTile (r : TileRecord) : Option Nat := if r.state = .ready then some r.validRows else notReady

/-- The Fetch Unit at a frame boundary: any line fetch is abandoned without an underrun, both stores are emptied, tile
states and geometry are latched, and the fetch of line 0 begins (R157, R160). -/
def fetchBoundary (s : State) : State :=
  fetchLine 0 (s.setFetch { s.fetch.abandon with
    output := []
    tileLatch := Table.ofFn 256 fun t => latchTile (s.pictures.directory.read t)
    width := s.setup.canvas.width.toNat
    height := s.setup.canvas.height.toNat
    slots := s.setup.slots })

/-! ## Bursts (R138, R139) -/

/-- The byte addresses of the eight words of a burst. -/
def burstWords (burst : Nat) : List Nat := (List.range 8).map fun j => burst * 32 + j * 4

/-- The pixel word at a byte address (R138). -/
def PictureMemory.word (m : PictureMemory) (a : Nat) : Rgba :=
  ⟨m.read a, m.read (a + 1), m.read (a + 2), m.read (a + 3)⟩

/-- The words of a burst that belong to an entry's span, in ascending order (R161). -/
def spanWords (m : PictureMemory) (e : FetchEntry) : List Rgba :=
  ((burstWords e.nextBurst).filter fun a => decide (e.first ≤ a) && decide (a < e.past)).map m.word

/-- The last burst of an entry (R158). -/
def FetchEntry.lastBurst (e : FetchEntry) : Nat := (e.past - 1) / 32

/-- What a read of a burst finds: what the check finds now, or a one-bit error found before and not written over since
(R139, R164). -/
def PictureMemory.check (m : PictureMemory) (burst : Nat) (found : ReadCheck) : ReadCheck :=
  if found = .clean ∧ m.oneBitBursts.read burst then .oneBit else found

/-- Picture memory after a read that found so much: a one-bit error stays in the burst (R139, R164). -/
def PictureMemory.afterRead (m : PictureMemory) (burst : Nat) (found : ReadCheck) : PictureMemory :=
  if found = .oneBit then { m with oneBitBursts := m.oneBitBursts.write burst true } else m

/-- The store being filled, with words added to a slot's entry and its complete mark set. -/
def fillStore (filling : List StoreEntry) (slot : Nat) (words : List Rgba) (complete : Bool) : List StoreEntry :=
  filling.map fun x => if x.slot = slot then { x with words := x.words ++ words, complete := complete } else x

/-- The Fetch Unit once its list may have been read to the end: with no entry left the fetch state becomes IDLE (R161). -/
def Fetch.finishLine (f : Fetch) : Fetch := if f.todo = [] then { f with fetching := false } else f

/-- A good burst read for the entry at the head: its words enter the store; the last burst completes the entry (R161). -/
def Fetch.takeBurst (f : Fetch) (m : PictureMemory) (e : FetchEntry) (rest : List FetchEntry) : Fetch :=
  let complete := decide (e.lastBurst ≤ e.nextBurst)
  Fetch.finishLine { f with
    filling := fillStore f.filling e.slot (spanWords m e) complete
    todo := if complete then rest else { e with nextBurst := e.nextBurst + 1 } :: rest }

/-- An uncorrectable burst: the entry is abandoned, not complete, and its tile marked not READY in the latch (R165). -/
def Fetch.abandonEntry (f : Fetch) (e : FetchEntry) (rest : List FetchEntry) : Fetch :=
  Fetch.finishLine { f with
    uncorrectable := bump f.uncorrectable
    tileLatch := f.tileLatch.write e.tile.toNat notReady
    todo := rest }

/-- The grant of the Fetch Unit: the next burst of the entry at the head of its list is read (R161, R164, R165). -/
def readBurst (found : ReadCheck) (s : State) : Result :=
  match s.fetch.todo with
  | [] => .next (s.setFetch s.fetch.finishLine)
  | e :: rest =>
    if memoryBytes ≤ e.nextBurst * 32 then .fault (.pictureAddress (e.nextBurst * 32))
    else
      let outcome := s.memory.check e.nextBurst found
      let s := s.setMemory (s.memory.afterRead e.nextBurst outcome)
      match outcome with
      | .clean => .next (s.setFetch (s.fetch.takeBurst s.memory e rest))
      | .oneBit =>
        .next (s.setFetch (Fetch.takeBurst { s.fetch with corrected := bump s.fetch.corrected } s.memory e rest))
      | .manyBits =>
        .next ((s.setFetch (s.fetch.abandonEntry e rest)).setPictures (s.pictures.reportFault e.tile))

/-! ## The drain (R149) -/

/-- The burst a buffered word belongs to (R149). -/
def BufferedWord.burst (w : BufferedWord) : Nat := w.address / 32

/-- The words of the front burst of a buffer (R149). -/
def frontWords : List BufferedWord → List BufferedWord
  | [] => []
  | w :: rest => w :: rest.takeWhile fun v => v.burst == w.burst

/-- The buffer without its front burst (R149). -/
def behindFront : List BufferedWord → List BufferedWord
  | [] => []
  | w :: rest => rest.dropWhile fun v => v.burst == w.burst

/-- A channel asks for a grant: in OPEN while its front burst is whole, in ENDING while it holds any word (R149, R166). -/
def Channel.asks (x : Channel) : Bool :=
  match x.state with
  | .idle => false
  | .opened => (frontWords x.buffer).length == 8
  | .ending => !x.buffer.isEmpty

/-- The four bytes of a pixel word, at ascending addresses (R138). -/
def wordBytes (w : Rgba) : List Byte := [w.red, w.green, w.blue, w.alpha]

/-- The word a set of buffered words gives an address, or zeros where the load supplies none (R149). -/
def suppliedWord (words : List BufferedWord) (a : Nat) : Rgba :=
  match words.find? fun w => w.address == a with
  | some w => w.word
  | none => ⟨0, 0, 0, 0⟩

/-- The 32 bytes written for a burst (R149). -/
def burstBytes (words : List BufferedWord) (burst : Nat) : List Byte :=
  (burstWords burst).flatMap fun a => wordBytes (suppliedWord words a)

/-- Picture memory with a whole burst written: a new, good check code goes with it (R139). -/
def PictureMemory.writeBurst (m : PictureMemory) (burst : Nat) (bytes : List Byte) : PictureMemory :=
  { m.writeBytes (burst * 32) bytes with oneBitBursts := m.oneBitBursts.write burst false }

/-- The grant of a load channel: the front burst is written and leaves the buffer, and the drain may end (R149, R150). -/
def writeBurst (c : LoadChannel) (s : State) : Result :=
  let x := s.pictures.channel c
  match x.buffer with
  | [] => .next s
  | w :: _ =>
    if memoryBytes ≤ w.burst * 32 then .fault (.pictureAddress (w.burst * 32))
    else
      .next (endDrain c
        ((s.setMemory (s.memory.writeBurst w.burst (burstBytes (frontWords x.buffer) w.burst))).setPictures
          (s.pictures.setChannel c { x with buffer := behindFront x.buffer })))

/-! ## The arbiter (R166, R167) -/

/-- Who is granted. -/
inductive Requester where
  | fetchUnit
  | channel (c : LoadChannel)
  deriving DecidableEq, Repr

/-- The channel that a grant to the channels goes to: A if A asks, else B if B asks (R166). -/
def askingChannel (p : Pictures) : Option LoadChannel :=
  if p.channelA.asks then some .a else if p.channelB.asks then some .b else none

/-- The arbiter's choice, from whether the Fetch Unit has a burst pending, which channel asks, and whether the window's
channel grants are below its load share (R166). -/
def chooseRequester (pending : Bool) (asking : Option LoadChannel) (below : Bool) : Option Requester :=
  match pending, asking, below with
  | true, none, _ => some .fetchUnit
  | true, some c, true => some (.channel c)
  | true, some _, false => some .fetchUnit
  | false, some c, _ => some (.channel c)
  | false, none, _ => none

/-- The window a grant belongs to: the one in progress, or a new one with the load share read now (R167). -/
def Arbiter.window (a : Arbiter) (canvas : CanvasEntry) : Arbiter :=
  if a.grants = 0 then ⟨0, 0, canvas.loadShare.toNat⟩ else a

/-- A window whose grants have come to 16 is closed (R167). -/
def Arbiter.close (a : Arbiter) : Arbiter := if 16 ≤ a.grants then { a with grants := 0, channelGrants := 0 } else a

/-- The window after a grant: one grant more, one channel grant more if a channel got it; the sixteenth closes it
(R167). -/
def Arbiter.count (a : Arbiter) : Requester → Arbiter
  | .fetchUnit => Arbiter.close { a with grants := a.grants + 1 }
  | .channel _ => Arbiter.close { a with grants := a.grants + 1, channelGrants := a.channelGrants + 1 }

/-- The requester the arbiter would grant now (R166, R167). -/
def grantee (s : State) : Option Requester :=
  let w := s.arbiter.window s.setup.canvas
  chooseRequester s.fetch.fetching (askingChannel s.pictures) (decide (w.channelGrants < w.share))

/-! ## Commands -/

/-- GRANT (R166): with no requester asking, no grant is given and the window does not move. -/
def execGrant (check : ReadCheck) (s : State) : Result :=
  match grantee s with
  | none => .next s
  | some .fetchUnit =>
    readBurst check (s.setArbiter ((s.arbiter.window s.setup.canvas).count .fetchUnit))
  | some (.channel c) =>
    writeBurst c (s.setArbiter ((s.arbiter.window s.setup.canvas).count (.channel c)))

/-- LINE_FETCH_COMPLETE (R161): FETCHING with no entry left to read, the fetch state becomes IDLE. The grant that reads
the last burst does this itself (log entry 9). -/
def execLineFetchComplete (s : State) : Result := .next (s.setFetch s.fetch.finishLine)

/-- WINDOW_CLOSE (R167): a window at 16 grants closes. The sixteenth grant does this itself (log entry 9). -/
def execWindowClose (s : State) : Result := .next (s.setArbiter s.arbiter.close)

/-- DRAIN_END (R150): an ENDING channel with an empty buffer. The grant, LOAD_DATA or LOAD_END that leaves it so does
this itself (log entry 9). -/
def execDrainEnd (channel : LoadChannel) (s : State) : Result := .next (endDrain channel s)

/-- STALL_ABORT (R153): an OPEN channel whose stall count stands at 120. The boundary that brings it there does this
itself (log entry 9). -/
def execStallAbort (channel : LoadChannel) (s : State) : Result :=
  .next (s.setPictures (stallOut channel s.pictures))

end Sys2Proof.Machine
end

