-- ==== Sys2Proof/Machine/Compositing.lean ====
section
/-! DEFINITION. The Compositor (chapter 10): the stack at one canvas pixel, the canvas line, and what each head sends. -/

namespace Sys2Proof.Machine

/-! ## Blending (R172) -/

/-- One channel of a layer blended over the value beneath (R172). -/
def blendChannel (a p b : Nat) : Nat := (a * p + (255 - a) * b + 127) / 255

/-- A layer's colour blended with an opacity over the colour beneath (R172). -/
def blend (a : Nat) (p b : Rgb) : Rgb :=
  ⟨BitVec.ofNat 8 (blendChannel a p.red.toNat b.red.toNat),
   BitVec.ofNat 8 (blendChannel a p.green.toNat b.green.toNat),
   BitVec.ofNat 8 (blendChannel a p.blue.toNat b.blue.toNat)⟩

/-! ## The slot's tile (R173 to R175) -/

/-- One channel dimmed by `d` (R175). -/
def dimChannel (d : Byte) (t : Byte) : Byte := BitVec.ofNat 8 ((t.toNat * d.toNat + 127) / 255)

/-- The grey of a colour (R175). -/
def greyOf (t : Rgb) : Byte :=
  BitVec.ofNat 8 ((77 * t.red.toNat + 150 * t.green.toNat + 29 * t.blue.toNat + 128) / 256)

/-- A tile colour after the slot's treatment, with `d` from the slot latch (R175). -/
def treatColour (a : Applied) (d : Byte) (t : Rgb) : Rgb :=
  match a with
  | .none => t
  | .dim _ => ⟨dimChannel d t.red, dimChannel d t.green, dimChannel d t.blue⟩
  | .grey => ⟨greyOf t, greyOf t, greyOf t⟩
  | .altTile => t

/-- The opacity of a tile pixel (R174). -/
def tileOpacity (k : KeyMode) (w : Rgba) : Nat :=
  match k with
  | .solid => 255
  | .alpha => w.alpha.toNat

/-- The tile pixel that the line store in output holds for a slot at a canvas column, if its entry is complete and
reaches the column (R173). -/
def storePixel (store : List StoreEntry) (slot x : Nat) : Option Rgba :=
  match store.find? fun e => e.slot == slot && e.complete with
  | none => none
  | some e => if e.canvasColumn ≤ x then e.words[((x : Int) - e.canvasColumn).toNat]? else none

/-- A slot's own layer at a pixel: its tile pixel where it has one, else its fill (R171, R173, R174, R176). -/
def slotLayer (setup : Setup) (e : SlotEntry) (r : RenderRecord) (pixel : Option Rgba) (under : Rgb) : Rgb :=
  match pixel, r.tile with
  | some w, some t =>
    blend (tileOpacity (setup.tiles.read t.toNat).keyMode w) (treatColour r.applied e.d ⟨w.red, w.green, w.blue⟩) under
  | _, _ => blend e.fillAlpha.toNat e.fillColour under

/-! ## The price glyphs (R177, R178) -/

/-- The coverage of a pixel of a glyph's cell, 0 to 15 (R48). -/
def coverage (glyphs : Table (0 : Byte)) (font code column row : Nat) : Nat :=
  let b := (glyphs.read (glyphIndex font (code * 3072 + row * 32 + column / 2))).toNat
  if column % 2 = 0 then b % 16 else b / 16

/-- The glyphs of a run blended over a pixel in run order; `left` is the left edge of the first, `top` their top edge
(R177, R178). -/
def drawGlyphs (glyphs : Table (0 : Byte)) (v : FontView) (colour : Rgb) (x y top : Int) : List Nat → Int → Rgb → Rgb
  | [], _, p => p
  | c :: rest, left, p =>
    drawGlyphs glyphs v colour x y top rest (left + v.advance c)
      (if left ≤ x ∧ x < left + v.width c ∧ top ≤ y ∧ y < top + v.height then
        blend (17 * coverage glyphs v.font c (x - left).toNat (y - top).toNat) colour p
      else p)

/-! ## The stack at one canvas pixel (R171) -/

/-- A slot's latched rectangle covers a canvas pixel (R171). -/
def covers (e : SlotEntry) (x y : Nat) : Bool :=
  decide (e.x.toInt ≤ x) && decide ((x : Int) < e.x.toInt + e.w.toNat)
    && decide (e.y.toInt ≤ y) && decide ((y : Int) < e.y.toInt + e.h.toNat)

/-- What the Compositor draws a frame from: the tables it reads, its slot latch, the frame records, the snapshot whose
font metrics made the fit, and the line store in output. -/
structure DrawingSet where
  setup : Setup
  slots : Table SlotEntry.initial
  frame : Table RenderRecord.initial
  snapshot : Option Snapshot
  store : List StoreEntry

/-- A slot's glyphs over a pixel: the run and offsets of its frame record, the latched font with the snapshot's metrics
(R120, R177). -/
def DrawingSet.glyphs (d : DrawingSet) (slot x y : Nat) (p : Rgb) : Rgb :=
  match d.snapshot with
  | none => p
  | some snap =>
    let e := d.slots.read slot
    let r := d.frame.read slot
    let v : FontView :=
      { height := (snap.fontHeights.read e.font.val).toNat, metrics := snap.metrics, font := e.font.val }
    drawGlyphs d.setup.glyphs v e.priceColour x y (e.y.toInt + e.py.toNat + r.yOffset) r.run
      (e.x.toInt + e.px.toNat + r.xOffset) p

/-- A slot's layers over a pixel: nothing where the slot is not visible or does not cover it (R171). -/
def DrawingSet.slot (d : DrawingSet) (x y : Nat) (under : Rgb) (slot : Nat) : Rgb :=
  let e := d.slots.read slot
  let r := d.frame.read slot
  if r.visible ∧ covers e x y then
    d.glyphs slot x y (slotLayer d.setup e r (storePixel d.store slot x) under)
  else under

/-- A canvas pixel: the slots in ascending number over the background (R171). -/
def DrawingSet.pixel (d : DrawingSet) (background : Rgb) (x y : Nat) : Rgb :=
  slotNumbers.foldl (d.slot x y) background

/-- The background of a canvas pixel: the input pixel in a LOCKED frame whose input line reaches it, else the plate
colour (R32). -/
def background (l : FrameLatch) (input : List Rgb) (x : Nat) : Rgb :=
  if l.lock = .locked then input.getD x l.plate else l.plate

/-- A canvas line composed from its background, X from 0 to the latched width less one (R171). -/
def DrawingSet.line (d : DrawingSet) (l : FrameLatch) (input : List Rgb) (y : Nat) : List Rgb :=
  (List.range l.width).map fun x => d.pixel (background l input x) x y

/-- The drawing set of the current frame with a given line store (R170). -/
def drawingSet (s : State) (l : FrameLatch) (store : List StoreEntry) : DrawingSet where
  setup := s.setup
  slots := l.slots
  frame := s.engine.frame
  snapshot := s.engine.snapshot
  store := store

/-! ## The frame boundary (R170) -/

/-- The latch the Compositor takes at a boundary (R170, R52). -/
def takeLatch (s : State) : FrameLatch where
  lock := s.timing.lock
  width := s.setup.canvas.width.toNat
  height := s.setup.canvas.height.toNat
  plate := s.setup.canvas.plate
  heads := s.setup.heads
  slots := s.setup.slots

/-- The Compositor at a frame boundary: it takes its latch, clears the blanked mark, and nothing of the new frame is
composed (R170). -/
def compositorBoundary (s : State) : State :=
  s.setCompositor { latch := some (takeLatch s), blanked := false, lines := [], inputLine := [] }

/-! ## What the heads send (R33, R180) -/

/-- A row of a head's frame by its number: canvas columns of the head's rectangle from a composed canvas line, the blank
colour outside the canvas; all blank where there is no line (R33, R180). -/
def headRow (h : HeadEntry) (line : Option (List Rgb)) : List Rgb :=
  (List.range h.w.toNat).map fun (c : Nat) =>
    let x : Int := h.x.toInt + c
    match line with
    | none => h.blank
    | some pixels => if 0 ≤ x then pixels.getD x.toNat h.blank else h.blank

/-- How many rows of its frame a head has sent once so many canvas lines of the frame have gone: all of them with the last
line, else those before the first canvas line still to come. Rows above the canvas wait for no line; how rows are placed
in time is outside the manual (R33, log entry 17). -/
def rowsSent (h : HeadEntry) (height gone : Nat) : Nat :=
  if gone = height then h.h.toNat else min h.h.toNat ((gone : Int) - h.y.toInt).toNat

/-- The rows a head has sent of the current frame: those outside the canvas, those of a disabled head and every row of a
blanked frame in the blank colour (R31, R33). A frame that ends before its last canvas line ends with the rows sent so
far (R30, R33). -/
def headRows (s : State) (head : Nat) : List (List Rgb) :=
  match s.compositor.latch with
  | none => []
  | some l =>
    let h := l.heads.read head
    (List.range (rowsSent h l.height s.compositor.lines.length)).map fun (r : Nat) =>
      let y : Int := h.y.toInt + r
      headRow h (if h.enabled ∧ s.compositor.blanked = false ∧ 0 ≤ y then s.compositor.lines[y.toNat]? else none)

/-! ## The output of a canvas line -/

/-- The frame's timing has reached the active start of canvas line `y`: the generator's line by its even spacing (R27),
or an active line of the input once its first has ended the blanking interval (R160). No line is output in a handover
wait. -/
def lineIsDue (s : State) (y : Nat) : Bool :=
  match s.timing.source with
  | .awaitingInput => false
  | .input => !s.receiver.interval
  | .generator =>
    match s.timing.generatorFrame with
    | none => false
    | some g => decide ((45 + y) * g.period ≤ (s.now - s.timing.frameStart) * (45 + g.activeLines))

/-- Canvas line `y` can be output: a frame is latched and not blanked, its records are complete, and the line lies in
the latched canvas (R119, R160, R171, R179). -/
def lineCanStart (s : State) (y : Nat) : Bool :=
  match s.compositor.latch with
  | none => false
  | some l => !s.compositor.blanked && !s.engine.computing && decide (y < l.height) && lineIsDue s y

/-- The line store filled for the starting line becomes the store in output; a fetch still going on ends, and the line
is counted as an underrun (R160, R162). -/
def startStore (s : State) : State :=
  s.setFetch { s.fetch.abandon with
    output := s.fetch.filling
    underruns := if s.fetch.fetching then bump s.fetch.underruns else s.fetch.underruns }

/-- The next canvas line composed from the line store in output (R171). -/
def composeLine (input : List Rgb) (s : State) : State :=
  match s.compositor.latch with
  | none => s
  | some l =>
    let line := (drawingSet s l s.fetch.output).line l input s.compositor.lines.length
    s.setCompositor { s.compositor with lines := s.compositor.lines ++ [line], inputLine := input }

/-- The next line of a blanked frame that the input delivers has come to its place: the heads send it in their blank
colour (R31, R33). -/
def blankLineIsDue (s : State) : Bool :=
  match s.compositor.latch with
  | none => false
  | some l => s.compositor.blanked && decide (s.compositor.lines.length < l.height) && lineIsDue s s.compositor.lines.length

/-- A line of a blanked frame goes by with no pixel composed and no fetch begun (R31, R163, R179, log entry 32). -/
def passBlankLine (s : State) : State :=
  s.setCompositor { s.compositor with lines := s.compositor.lines ++ [[]] }

/-- LINE_OUTPUT_START (R160, R162, R171): the next canvas line is composed from its store, and the fetch of the line
after it begins; of a blanked frame it goes by blank (R31). -/
def execLineOutputStart (input : List Rgb) (s : State) : Result :=
  .next (if lineCanStart s s.compositor.lines.length then
    fetchLine (s.compositor.lines.length + 1) (composeLine input (startStore s))
  else if blankLineIsDue s then passBlankLine s
  else s)

end Sys2Proof.Machine
end

