-- ==== Sys2Proof/Machine/Boundary.lean ====
section
/-! DEFINITION. The frame boundary (R28): what every block does at the start of an output frame, as one event. -/

namespace Sys2Proof.Machine

/-- The frame period of a generator frame that begins now: the generator period when known, else the nominal period of
the CANVAS table (R27). -/
def generatorFramePeriod (s : State) : Nat :=
  s.timing.generatorPeriod.getD s.setup.canvas.nominalPeriod.toNat

/-- The timing unit at a frame boundary: the new frame's timing source and start, and, where the generator times the
frame or its wait, the period and the active lines taken there (R27, R28). -/
def timingBoundary (source : TimingSource) (s : State) : State :=
  s.setTiming { s.timing with
    source := source
    frameStart := s.now
    generatorFrame :=
      if source = .input then none else some ⟨generatorFramePeriod s, s.setup.canvas.height.toNat⟩
    blankingPassed := 0 }

/-- The Picture Loader at a frame boundary (R153). -/
def picturesBoundary (s : State) : State := s.setPictures s.pictures.boundary

/-- A frame boundary that begins a frame with the given timing source (R28). The Time Base reads the ending frame's live
state; the Change Stager then reads the boundary's reading and daypart; the Price Engine reads the new frame's live
state and the Time Base's values; the Fetch Unit reads the render records (R59, R71, R157). -/
def frameBoundary (source : TimingSource) (s : State) : State :=
  fetchBoundary (compositorBoundary (engineBoundary (picturesBoundary (stagerBoundary (timeBaseBoundary
    (timingBoundary source s))))))

end Sys2Proof.Machine
end

