-- ==== Sys2Proof/Machine/Timing.lean ====
section
/-! DEFINITION. The timing unit (chapter 02): measurement, the lock states, the generator, handover and unlock, and the
blanked frame. -/

namespace Sys2Proof.Machine

/-! ## Measurement (R19 to R21) -/

/-- The middle one of three numbers (R20). -/
def middle (a b c : Nat) : Nat := max (min a b) (min (max a b) c)

/-- The accepted geometry: the field-wise median of three measurements; none while there are fewer (R20). -/
def acceptedGeometry : List Measurement → Option Measurement
  | [a, b, c] => some
    { activeWidth := middle a.activeWidth b.activeWidth c.activeWidth
      activeLines := middle a.activeLines b.activeLines c.activeLines
      blankingLines := middle a.blankingLines b.blankingLines c.blankingLines
      period := middle a.period b.period c.period }
  | _ => none

/-- The accepted geometry matches the canvas (R21). -/
def matchesCanvas (m : Measurement) (c : CanvasEntry) : Bool :=
  m.activeWidth == c.width.toNat && m.activeLines == c.height.toNat && decide (10 ≤ m.blankingLines)

/-- A measurement appended to the list, the oldest removed from a list of three (R20). -/
def appendMeasurement (l : List Measurement) (m : Measurement) : List Measurement :=
  (if 3 ≤ l.length then l.drop 1 else l) ++ [m]

/-- A measurement completed at an input frame start: the counts saturate at 65535 (R19). `further` active lines followed
the frame's first; a frame without a first active line has none. -/
def InProgress.complete (p : InProgress) (further now : Nat) : Measurement where
  activeWidth := p.activeWidth
  activeLines := if p.activeLines = 0 then 0 else min 65535 (p.activeLines + further)
  blankingLines := p.blankingLines
  period := now - p.startedAt

/-- A measurement that begins at an input frame start (R19). -/
def InProgress.start (now : Nat) : InProgress := ⟨now, 0, 0, 0⟩

/-- The generator period a lock sets from the accepted geometry (R27). -/
def lockedPeriod (m : Measurement) : Nat := clamp 8000 50000 m.period

/-- The reference period of the input timeout: that of the newest measurement, or the nominal period (R26). -/
def referencePeriod (l : List Measurement) (c : CanvasEntry) : Nat :=
  match l.getLast? with
  | some m => m.period
  | none => c.nominalPeriod.toNat

/-! ## An input frame start (R22 to R25) -/

/-- The measurement list after an input frame start in ACQUIRING, LOCKED or MISMATCH: the frame that ends there is
appended (R23, R24, R25). -/
def completedList (t : Timing) (further now : Nat) : List Measurement :=
  match t.current with
  | none => t.measurements
  | some p => appendMeasurement t.measurements (p.complete further now)

/-- The timing unit after an input frame start with a list: the next measurement begins and the timeout is armed (R23 to
R26). -/
def Timing.rearm (t : Timing) (l : List Measurement) (c : CanvasEntry) (now : Nat) : Timing :=
  { t with
    measurements := l
    current := some (InProgress.start now)
    timeout := some (now + 2 * referencePeriod l c) }

/-- The accepted geometry of a list, if it matches the canvas (R20, R21). -/
def matchingGeometry (l : List Measurement) (c : CanvasEntry) : Option Measurement :=
  match acceptedGeometry l with
  | none => none
  | some m => if matchesCanvas m c then some m else none

/-- An input frame start opens an input blanking interval; one still open ends first (R10, R22, R34). -/
def openInterval (s : State) : State := s.setReceiver { s.receiver.endInterval with interval := true }

/-- The lines of the handover wait in progress that have passed: since the frame's boundary, at the generator's line
spacing, each a (45 + height)th of the period taken there; one cut short is not counted (R27, R29, R31, log entry 23). -/
def waitLines (s : State) : Nat :=
  match s.timing.generatorFrame with
  | none => 0
  | some g => (s.now - s.timing.frameStart) * (45 + g.activeLines) / g.period

/-- An input frame start in LOCKED (R24): with the median still matching it is a boundary on input timing, or completes
a handover, the lines of whose wait count as blanking lines of the frame (R29, R31), or changes nothing of the output;
without, the lock is lost, and a frame that ran on the input's timing ends there. -/
def lockedStart (matching : Option Measurement) (s : State) : State :=
  match matching, s.timing.source with
  | some m, .input =>
    frameBoundary .input (s.setTiming { s.timing with generatorPeriod := some (lockedPeriod m) })
  | some m, .awaitingInput =>
    s.setTiming { s.timing with
      generatorPeriod := some (lockedPeriod m)
      source := .input
      generatorFrame := none
      blankingPassed := waitLines s }
  | some m, .generator => s.setTiming { s.timing with generatorPeriod := some (lockedPeriod m) }
  | none, .generator => s.setTiming { s.timing with lock := .mismatch }
  | none, _ => frameBoundary .generator (s.setTiming { s.timing with lock := .mismatch })

/-- An input frame start in ACQUIRING or MISMATCH, which is no boundary: a matching median locks, another one does not;
while the list is short ACQUIRING stays (R23, R25). -/
def unlockedStart (l : List Measurement) (matching : Option Measurement) (s : State) : State :=
  match matching with
  | some m => s.setTiming { s.timing with lock := .locked, generatorPeriod := some (lockedPeriod m) }
  | none =>
    if s.timing.lock = .acquiring ∧ l.length < 3 then s else s.setTiming { s.timing with lock := .mismatch }

/-- An input frame start taken by the timing unit, by the lock state it arrives in (R22 to R25). -/
def takeFrameStart (further : Nat) (s : State) : State :=
  let l := completedList s.timing further s.now
  let c := s.setup.canvas
  match s.timing.lock with
  | .noInput => s.setTiming { s.timing.rearm [] c s.now with lock := .acquiring }
  | .holdover => s.setTiming { s.timing.rearm [] c s.now with lock := .acquiring }
  | .acquiring => unlockedStart l (matchingGeometry l c) (s.setTiming (s.timing.rearm l c s.now))
  | .mismatch => unlockedStart l (matchingGeometry l c) (s.setTiming (s.timing.rearm l c s.now))
  | .locked => lockedStart (matchingGeometry l c) (s.setTiming (s.timing.rearm l c s.now))

/-! ## The first active line (R10, R19, R31) -/

/-- The measurement in progress takes the width of the first active line (R19). -/
def InProgress.firstLine (p : InProgress) (width : Nat) : InProgress :=
  { p with activeWidth := min 65535 width, activeLines := 1 }

/-- An input-timed output frame that reaches its first active line after fewer than 10 blanking lines becomes a blanked
frame: the mark is set and the fetch of line 0 abandoned, without an underrun (R31, R163, R179). -/
def blankFrame (s : State) : State :=
  if s.timing.source = .input ∧ s.timing.blankingPassed < 10 then
    (s.setCompositor { s.compositor with blanked := true }).setFetch s.fetch.abandon
  else s

/-! ## Commands -/

/-- INPUT_FRAME_START (R22 to R25): taken unless the part is in reset (R18). The sender's number of wait lines is not
read (R29, R31). -/
def execInputFrameStart (furtherLines _waitLines : Nat) (s : State) : Result :=
  .next (if s.timing.inReset then s else takeFrameStart furtherLines (openInterval s))

/-- FIRST_ACTIVE_LINE (R10, R19, R31): the first active line ends the interval in progress, and may blank the frame. -/
def execFirstActiveLine (width : Nat) (s : State) : Result :=
  .next (if s.receiver.interval then
    blankFrame ((s.setReceiver s.receiver.endInterval).setTiming { s.timing with
      current := s.timing.current.map fun p => p.firstLine width })
  else s)

/-- The input timeout is armed and its deadline has come (R26). -/
def timeoutIsDue (s : State) : Bool :=
  match s.timing.timeout with
  | none => false
  | some deadline => decide (deadline ≤ s.now)

/-- INPUT_TIMEOUT (R26, R30): HOLDOVER; a frame that ran on the input's timing, or waited for it, ends there. -/
def execInputTimeout (s : State) : Result :=
  .next (if timeoutIsDue s then
    let t := (s.setReceiver s.receiver.endInterval).setTiming { s.timing with
      lock := .holdover, current := none, timeout := none }
    if s.timing.source = .generator then t else frameBoundary .generator t
  else s)

/-- The generator times the frame in progress and its period has run out (R27). -/
def generatorIsDue (s : State) : Bool :=
  !s.timing.inReset && s.timing.source == .generator &&
    match s.timing.generatorFrame with
    | none => false
    | some g => decide (s.timing.frameStart + g.period ≤ s.now)

/-- GENERATOR_FRAME_END (R27, R28, R29): a boundary that begins a generator frame, or a handover wait in LOCKED. -/
def execGeneratorFrameEnd (s : State) : Result :=
  .next (if generatorIsDue s then
    frameBoundary (if s.timing.lock = .locked then .awaitingInput else .generator) s
  else s)

end Sys2Proof.Machine
end

