-- ==== Sys2Proof/Machine/Resets.lean ====
section
/-! DEFINITION. The three resets and the completion of a reset (R16, R17, R35, R53, R73, R97, R116, R137, R156, R169,
R181, R189). -/

namespace Sys2Proof.Machine

/-! ## Power-on and board reset -/

/-- Picture memory at power-on: what it holds is whatever the device holds (R138, R156). -/
def PictureMemory.powerUp (m : PictureMemory) : PictureMemory := ⟨[], .empty, m.powerOns + 1⟩

/-- The part at power-on: every block takes its power-on state, the node number comes from the straps. The oscillator
count, the free-value number and the commands that wait are the model's own and go on. -/
def powerOn (straps : Fin 8) (s : State) : State :=
  { State.reset with
    now := s.now
    fresh := s.fresh
    memory := s.memory.powerUp
    port := Port.initial straps
    pending := s.pending }

/-- The Table Loader at board reset: the TILES entries are kept, all else returns to its defaults (R53). -/
def Setup.boardReset (u : Setup) : Setup := { Setup.initial with tiles := u.tiles }

/-- The part at board reset: every block takes its board-reset state; the TILES entries, the tiles that hold pictures
and picture memory are kept (R53, R156). -/
def boardReset (straps : Fin 8) (s : State) : State :=
  { State.reset with
    now := s.now
    fresh := s.fresh
    setup := s.setup.boardReset
    pictures := s.pictures.reset
    memory := s.memory
    port := Port.initial straps
    pending := s.pending }

/-! ## Soft reset -/

/-- The Carrier Receiver at soft reset: any packet in assembly is abandoned uncounted and the counters are cleared; the
blanking interval in progress goes on (R16, R17). -/
def Receiver.softReset (r : Receiver) : Receiver := { Receiver.initial with interval := r.interval }

/-- The Fetch Unit at soft reset: the line fetch is abandoned, both stores are emptied, the counters cleared; the
latches are kept (R169). -/
def Fetch.softReset (f : Fetch) : Fetch := { f.abandon.clearCounters with output := [] }

/-- The Status Line Port at soft reset: the node number is kept, a reply is abandoned uncounted, both counters are
cleared (R189). -/
def Port.softReset (p : Port) : Port := { p with reply := .idle, collisions := 0, replyTimeouts := 0 }

/-- The rest of the canvas line in output once both line stores are empty: from the pixel that was being composed on,
which is a free value, it is composed again without tile pixels (R169, R181, log entry 13). -/
def cutLine (l : FrameLatch) (s : State) : State :=
  match s.compositor.lines.getLast? with
  | none => s
  | some line =>
    let k := Config.cutColumn s.fresh
    let again := (drawingSet s l []).line l s.compositor.inputLine (s.compositor.lines.length - 1)
    (s.setCompositor { s.compositor with
      lines := s.compositor.lines.dropLast ++ [line.take k ++ again.drop k] }).setFresh (s.fresh + 1)

/-- The frame in progress after a soft reset has emptied the line stores: the line in output loses its tiles from there
on, and the fetch of the line after it begins at once, or of line 0 before any was output; in a blanked frame, or with
no frame in progress, neither happens (R163, R169). -/
def refetch (s : State) : State :=
  match s.compositor.latch with
  | none => s
  | some l => if s.compositor.blanked then s else fetchLine s.compositor.lines.length (cutLine l s)

/-- Every block's soft reset (R16): staging, loads, fetch, reply, cursor and counters are cleared; tables, live state,
clock, groups, timing, node number, records and latches are kept. -/
def softResetBlocks (s : State) : State :=
  refetch
    { s with
      receiver := s.receiver.softReset
      setup := { s.setup with cursor := none }
      stager := Stager.initial
      pictures := s.pictures.reset
      fetch := s.fetch.softReset
      arbiter := Arbiter.initial
      port := s.port.softReset }

/-- SOFT_RESET: a payload of one byte or more is refused and no block is reset (R16). -/
def softReset (payload : List Byte) (s : State) : Except RefusalCode State :=
  needsEmpty payload (softResetBlocks s)

/-! ## Commands -/

/-- POWER_ON (R35). -/
def execPowerOn (straps : Fin 8) (s : State) : Result := .next (powerOn straps s)

/-- BOARD_RESET (R35). -/
def execBoardReset (straps : Fin 8) (s : State) : Result := .next (boardReset straps s)

/-- RESET_COMPLETE (R35): the first frame boundary since the reset, on generator timing. -/
def execResetComplete (s : State) : Result :=
  .next (if s.timing.inReset then
    frameBoundary .generator (s.setTiming { s.timing with inReset := false })
  else s)

/-- SOFT_RESET (R16). -/
def execSoftReset (payload : List Byte) (s : State) : Result := .next (settle .softReset s (softReset payload s))

end Sys2Proof.Machine
end

