-- ==== Sys2Proof/Machine/Carrier.lean ====
section
/-! DEFINITION. The Carrier Receiver (chapter 01): carrier lines, code symbols, packet framing, discards, the node filter
and the hand-over of packets to their owners. -/

namespace Sys2Proof.Machine

/-! ## Carrier lines and symbols (R1, R2) -/

/-- The carrier mark's colour (R1). -/
def markColour : Rgb := ⟨0x5A, 0xA5, 0x3C⟩

/-- The pixels of a line the receiver takes into account (R1). -/
def lineBound : Nat := 8192

/-- A blanking line is a carrier line: at least 17 pixels, the first sixteen of the mark's colour (R1). -/
def bearsMark (pixels : List Rgb) : Bool :=
  decide (17 ≤ pixels.length) && (pixels.take 16).all fun p => p == markColour

/-- The symbols of a carrier line, in pixel order (R1). -/
def lineSymbols (pixels : List Rgb) : List Rgb := (pixels.take lineBound).drop 16

/-- What a symbol pixel is (R2). -/
inductive Symbol where
  | data (value : Byte)
  | start
  | idle
  | error
  deriving DecidableEq, Repr

/-- A symbol pixel checked and classed (R2): red must be 255 less green, blue a class value. -/
def classify (p : Rgb) : Symbol :=
  if p.red.toNat + p.green.toNat ≠ 255 then .error
  else if p.blue = 0x00 then .data p.green
  else if p.blue = 0xF0 then .start
  else if p.blue = 0x0F then .idle
  else .error

/-! ## Framing (R3 to R5, R8, R9) -/

/-- A START begins a packet (R3). -/
def Receiver.beginPacket (r : Receiver) : Receiver :=
  { r with buffer := [], declared := none, check := 0xFFFF, received := [], assembly := .header }

/-- A START symbol: in HUNT it begins a packet, elsewhere it discards the one in assembly as ABORTED first (R3, R9). -/
def Receiver.start (r : Receiver) : Receiver :=
  if r.assembly = .hunt then r.beginPacket else { r.beginPacket with aborted := bump r.aborted }

/-- A symbol error: outside HUNT it discards the packet as SYMBOL_ERROR (R3, R8). -/
def Receiver.symbolError (r : Receiver) : Receiver :=
  if r.assembly = .hunt then r else { r.drop with symbolErrors := bump r.symbolErrors }

/-- A byte of the header or the payload joins the buffer and the running check (R4, R5). -/
def Receiver.append (r : Receiver) (v : Byte) : Receiver :=
  { r with buffer := r.buffer ++ [v], check := crcByte r.check v }

/-- The payload length the header declares (R4). -/
def declaredLength (buffer : List Byte) : Nat := field buffer 2 2

/-- The fourth header byte settles the declared length: above 1024 the packet is OVERLENGTH (R4). -/
def Receiver.headerDone (r : Receiver) : Receiver :=
  if 1024 < declaredLength r.buffer then { r.drop with overlength := bump r.overlength }
  else
    { r with
      declared := some (declaredLength r.buffer)
      assembly := if declaredLength r.buffer = 0 then .check else .payload }

/-- A DATA symbol in HEADER (R4). -/
def Receiver.headerByte (r : Receiver) (v : Byte) : Receiver :=
  if 4 ≤ (r.append v).buffer.length then (r.append v).headerDone else r.append v

/-- A DATA symbol in PAYLOAD (R5). -/
def Receiver.payloadByte (r : Receiver) (v : Byte) : Receiver :=
  if 4 + r.declared.getD 0 ≤ (r.append v).buffer.length then { r.append v with assembly := .check } else r.append v

/-! ## The hand-over (R11 to R15) -/

/-- The kind of a kind code; none for an unknown one (R13, R15). -/
def kindOfCode (code : Byte) : Option PacketKind := PacketKind.all.find? fun k => k.code == code

/-- What the owner of a kind does with an accepted packet (R13). -/
def ownerActs (kind : PacketKind) (broadcast : Bool) (payload : List Byte) (s : State) : State :=
  match kind with
  | .select => settle .select s (select payload s)
  | .write => write payload s
  | .query => settle .query s (query broadcast payload s)
  | .stage => settle .stage s (stage payload s)
  | .sealBatch => settle .sealBatch s (sealBatch payload s)
  | .discardOpen => settle .discardOpen s (discardOpen payload s)
  | .dropSealed => settle .dropSealed s (dropSealed payload s)
  | .hold => settle .hold s (setHold true payload s)
  | .release => settle .release s (setHold false payload s)
  | .statusNow => settle .statusNow s (statusNow payload s)
  | .setTime => settle .setTime s (setTime payload s)
  | .groupRestart => settle .groupRestart s (groupRestart payload s)
  | .loadOpen => settle .loadOpen s (loadOpen payload s)
  | .loadData => settle .loadData s (loadData payload s)
  | .loadEnd => settle .loadEnd s (loadEnd payload s)
  | .loadAbort => settle .loadAbort s (loadAbort payload s)
  | .setNode => settle .setNode s (setNode broadcast payload s)
  | .clearCounters => settle .clearCounters s (clearCounters payload s)
  | .softReset => settle .softReset s (softReset payload s)

/-- An accepted packet handed, whole, to the block that owns its kind; an unknown kind is refused by the receiver itself
(R13, R15). -/
def handOver (code : Byte) (broadcast : Bool) (payload : List Byte) (s : State) : State :=
  match kindOfCode code with
  | none => refuseKind .badKind code s
  | some kind => ownerActs kind broadcast payload s

/-- The destination that every node takes (R11). -/
def broadcastNode : Byte := 15

/-- The node filter (R11): the destination byte equals the node number held now, or 15. -/
def takesPacket (s : State) (destination : Byte) : Bool :=
  destination.toNat == s.port.node.val || destination == broadcastNode

/-- A complete and good packet: taken, it is counted as accepted and handed over; else it is ignored (R7, R11). -/
def packetDone (s : State) : State :=
  let r := s.receiver
  let t := s.setReceiver { r with assembly := .hunt }
  if takesPacket s (byteAt r.buffer 0) then
    handOver (byteAt r.buffer 1) (byteAt r.buffer 0 == broadcastNode) (r.buffer.drop 4)
      (t.setReceiver { t.receiver with accepted := bump r.accepted })
  else t

/-- A DATA symbol in CHECK: the first is the low byte of the received check, the second its high byte, which ends the
packet: judged, it is BAD_CHECK or good (R5, R7). -/
def checkByte (v : Byte) (s : State) : State :=
  let r := s.receiver
  match r.received with
  | [] => s.setReceiver { r with received := [v] }
  | low :: _ =>
    let t := s.setReceiver { r with received := [low, v] }
    if leNat [low, v] = r.check.toNat then packetDone t
    else t.setReceiver { t.receiver.drop with badCheck := bump r.badCheck }

/-- A DATA symbol, by the assembly state it arrives in (R3, R4, R5). -/
def dataSymbol (v : Byte) (s : State) : State :=
  match s.receiver.assembly with
  | .hunt => s
  | .header => s.setReceiver (s.receiver.headerByte v)
  | .payload => s.setReceiver (s.receiver.payloadByte v)
  | .check => checkByte v s

/-- A symbol of a carrier line (R2 to R9). -/
def takeSymbol (s : State) (p : Rgb) : State :=
  match classify p with
  | .data v => dataSymbol v s
  | .start => s.setReceiver s.receiver.start
  | .idle => s
  | .error => s.setReceiver s.receiver.symbolError

/-- A blanking line counted: in the measurement in progress (R19), and in the blanking of an input-timed output frame
(R31). -/
def countBlankingLine (s : State) : State :=
  s.setTiming { s.timing with
    current := s.timing.current.map fun p => { p with blankingLines := countOne p.blankingLines }
    blankingPassed :=
      if s.timing.source = .input then s.timing.blankingPassed + 1 else s.timing.blankingPassed }

/-! ## Commands -/

/-- CARRIER_LINE (R1): a blanking line of the interval in progress is counted, and, if it bears the mark, its symbols are
taken in pixel order. Outside an interval no line is examined. -/
def execCarrierLine (pixels : List Rgb) (s : State) : Result :=
  .next (if s.receiver.interval then
    if bearsMark (pixels.take lineBound) then (lineSymbols pixels).foldl takeSymbol (countBlankingLine s)
    else countBlankingLine s
  else s)

/-- BAD_KIND (R15). -/
def execBadKind (kind : Byte) (s : State) : Result := .next (refuseKind .badKind kind s)

end Sys2Proof.Machine
end

