-- ==== Sys2Proof/Machine/Dispatch.lean ====
section
/-! DEFINITION. Which meaning each command has: one arm for each row of the opcode table. -/

namespace Sys2Proof.Machine

/-- A command's effect on everything but the queue. -/
def exec (i : Instr) (s : State) : Host.Outcome State Fault Refusal :=
  match i with
  | .powerOn straps => Sys2Proof.Machine.execPowerOn straps s
  | .boardReset straps => Sys2Proof.Machine.execBoardReset straps s
  | .resetComplete => Sys2Proof.Machine.execResetComplete s
  | .carrierLine pixels => Sys2Proof.Machine.execCarrierLine pixels s
  | .firstActiveLine width => Sys2Proof.Machine.execFirstActiveLine width s
  | .badKind kind => Sys2Proof.Machine.execBadKind kind s
  | .select payload => Sys2Proof.Machine.execSelect payload s
  | .write payload => Sys2Proof.Machine.execWrite payload s
  | .queryStatus broadcast payload => Sys2Proof.Machine.execQueryStatus broadcast payload s
  | .queryRead broadcast payload => Sys2Proof.Machine.execQueryRead broadcast payload s
  | .stage payload => Sys2Proof.Machine.execStage payload s
  | .sealBatch payload => Sys2Proof.Machine.execSealBatch payload s
  | .discardOpen payload => Sys2Proof.Machine.execDiscardOpen payload s
  | .dropSealed payload => Sys2Proof.Machine.execDropSealed payload s
  | .hold payload => Sys2Proof.Machine.execHold payload s
  | .release payload => Sys2Proof.Machine.execRelease payload s
  | .statusNow payload => Sys2Proof.Machine.execStatusNow payload s
  | .setTime payload => Sys2Proof.Machine.execSetTime payload s
  | .groupRestart payload => Sys2Proof.Machine.execGroupRestart payload s
  | .loadOpen payload => Sys2Proof.Machine.execLoadOpen payload s
  | .loadData payload => Sys2Proof.Machine.execLoadData payload s
  | .loadEnd payload => Sys2Proof.Machine.execLoadEnd payload s
  | .loadAbort payload => Sys2Proof.Machine.execLoadAbort payload s
  | .setNode broadcast payload => Sys2Proof.Machine.execSetNode broadcast payload s
  | .clearCounters payload => Sys2Proof.Machine.execClearCounters payload s
  | .softReset payload => Sys2Proof.Machine.execSoftReset payload s
  | .inputFrameStart furtherLines waitLines => Sys2Proof.Machine.execInputFrameStart furtherLines waitLines s
  | .inputTimeout => Sys2Proof.Machine.execInputTimeout s
  | .generatorFrameEnd => Sys2Proof.Machine.execGeneratorFrameEnd s
  | .groupStep group => Sys2Proof.Machine.execGroupStep group s
  | .stallAbort channel => Sys2Proof.Machine.execStallAbort channel s
  | .completionEvent => Sys2Proof.Machine.execCompletionEvent s
  | .lineOutputStart input => Sys2Proof.Machine.execLineOutputStart input s
  | .lineFetchComplete => Sys2Proof.Machine.execLineFetchComplete s
  | .grant check => Sys2Proof.Machine.execGrant check s
  | .windowClose => Sys2Proof.Machine.execWindowClose s
  | .drainEnd channel => Sys2Proof.Machine.execDrainEnd channel s
  | .replyStart readings => Sys2Proof.Machine.execReplyStart readings s
  | .replyTimeout => Sys2Proof.Machine.execReplyTimeout s
  | .collision => Sys2Proof.Machine.execCollision s
  | .replyEnd => Sys2Proof.Machine.execReplyEnd s
  | .clockAdvance micros => Sys2Proof.Machine.execClockAdvance micros s

end Sys2Proof.Machine
end

