-- ==== Sys2Proof/WellFormed.lean ====
section
/-! DEFINITION. Which commands can be sent: the bounds the receiver puts on a packet that reaches its owner, and which
of the two QUERY rows a QUERY belongs to. Meanings do not rely on them. -/

namespace Sys2Proof

/-- A payload the receiver passes holds at most 1024 bytes (R4). -/
def payloadFits (payload : List Byte) : Bool := decide (payload.length ≤ 1024)

/-- The payload of a QUERY of type READ begins with the type byte 1 (R183). -/
def isReadQuery (payload : List Byte) : Bool := payload.head? == some 1

/-- The commands that can be sent. -/
def Instr.wellFormed : Instr → Bool
  | .powerOn _ => true
  | .boardReset _ => true
  | .resetComplete => true
  | .carrierLine _ => true
  | .firstActiveLine _ => true
  | .badKind kind => !(PacketKind.all.any fun k => k.code == kind)
  | .select payload => payloadFits payload
  | .write payload => payloadFits payload
  | .queryStatus _ payload => payloadFits payload && !isReadQuery payload
  | .queryRead _ payload => payloadFits payload && isReadQuery payload
  | .stage payload => payloadFits payload
  | .sealBatch payload => payloadFits payload
  | .discardOpen payload => payloadFits payload
  | .dropSealed payload => payloadFits payload
  | .hold payload => payloadFits payload
  | .release payload => payloadFits payload
  | .statusNow payload => payloadFits payload
  | .setTime payload => payloadFits payload
  | .groupRestart payload => payloadFits payload
  | .loadOpen payload => payloadFits payload
  | .loadData payload => payloadFits payload
  | .loadEnd payload => payloadFits payload
  | .loadAbort payload => payloadFits payload
  | .setNode _ payload => payloadFits payload
  | .clearCounters payload => payloadFits payload
  | .softReset payload => payloadFits payload
  | .inputFrameStart _ _ => true
  | .inputTimeout => true
  | .generatorFrameEnd => true
  | .groupStep _ => true
  | .stallAbort _ => true
  | .completionEvent => true
  | .lineOutputStart _ => true
  | .lineFetchComplete => true
  | .grant _ => true
  | .windowClose => true
  | .drainEnd _ => true
  | .replyStart _ => true
  | .replyTimeout => true
  | .collision => true
  | .replyEnd => true
  | .clockAdvance _ => true

end Sys2Proof
end

