-- ==== Sys2Proof/Safety.lean ====
section
/-! DEFINITION. What the statements speak of: the layouts in which a player sends packets, what a safe step is, and the
properties of the part's state that every step keeps. No meaning uses anything of this file. -/

namespace Sys2Proof.Machine

/-! ## What a player sends -/

/-- A DATA symbol's pixel (R2). -/
def dataPixel (v : Byte) : Rgb := ⟨255 - v, v, 0x00⟩

/-- A START symbol's pixel: its value has no meaning, its red and green sum to 255 (R2). -/
def startPixel : Rgb := ⟨0xFF, 0x00, 0xF0⟩

/-- An IDLE symbol's pixel (R2). -/
def idlePixel : Rgb := ⟨0xFF, 0x00, 0x0F⟩

/-- The mark of a carrier line (R1). -/
def markPixels : List Rgb := List.replicate 16 ⟨0x5A, 0xA5, 0x3C⟩

/-- A packet's header and payload (R4). -/
def packetBody (destination kind : Byte) (payload : List Byte) : List Byte :=
  [destination, kind] ++ leBytes 2 payload.length ++ payload

/-- A carrier line with one packet: the mark, a START, header and payload, and the two check bytes, low byte first
(R1 to R6). -/
def packetLine (destination kind : Byte) (payload checkBytes : List Byte) : List Rgb :=
  markPixels ++ startPixel :: (packetBody destination kind payload ++ checkBytes).map dataPixel

/-- The check bytes of a packet (R6). -/
def goodCheck (destination kind : Byte) (payload : List Byte) : List Byte :=
  word16Bytes (crc (packetBody destination kind payload))

/-- The command that is the arrival of an accepted packet at the block that owns its kind (R13). A QUERY whose payload
begins with type 1 is the QUERY_READ row, any other QUERY the QUERY_STATUS row. -/
def packetCommand (kind : PacketKind) (broadcast : Bool) (payload : List Byte) : Instr :=
  match kind with
  | .select => .select payload
  | .write => .write payload
  | .query => if isReadQuery payload then .queryRead broadcast payload else .queryStatus broadcast payload
  | .stage => .stage payload
  | .sealBatch => .sealBatch payload
  | .discardOpen => .discardOpen payload
  | .dropSealed => .dropSealed payload
  | .hold => .hold payload
  | .release => .release payload
  | .statusNow => .statusNow payload
  | .setTime => .setTime payload
  | .groupRestart => .groupRestart payload
  | .loadOpen => .loadOpen payload
  | .loadData => .loadData payload
  | .loadEnd => .loadEnd payload
  | .loadAbort => .loadAbort payload
  | .setNode => .setNode broadcast payload
  | .clearCounters => .clearCounters payload
  | .softReset => .softReset payload

/-- A change record as a STAGE payload carries it, unused bytes 0 (R75 to R78). -/
def encodeChange : Change → List Byte
  | .price book item entry =>
    [1] ++ leBytes 1 book.val ++ leBytes 2 item.val ++ leBytes 3 ((entry.map Fin.val).getD 0xFFFFFF)
      ++ List.replicate 9 0
  | .item item r =>
    [2, 0] ++ leBytes 2 item.val ++ leBytes 1 r.status.number ++ leBytes 1 r.modifier.kindNumber
      ++ leBytes 3 r.modifier.value ++ [r.tile.getD 0, r.soldOutTile.getD 0]
      ++ leBytes 1 (bit r.tile.isSome + 2 * bit r.soldOutTile.isSome) ++ List.replicate 4 0
  | .bind slot b =>
    [3, 0] ++ leBytes 2 slot.val ++ leBytes 1 (bit b.active) ++ leBytes 1 b.source.kindNumber
      ++ leBytes 2 b.source.number ++ leBytes 1 b.tileChoice.kindNumber ++ [b.tileChoice.number]
      ++ List.replicate 6 0

/-- A pair of a STATUS_NOW payload (R87). -/
def encodePair (p : Fin 1024 × Status) : List Byte := leBytes 2 p.1.val ++ leBytes 1 p.2.number ++ [0]

/-- The number of a load channel (R143). -/
def LoadChannel.number : LoadChannel → Byte
  | .a => 0
  | .b => 1

/-- The number of a source format (R144). -/
def SourceFormat.number : SourceFormat → Byte
  | .rgb888 => 0
  | .rgba8888 => 1
  | .rgb565 => 2

/-- A LOAD_DATA payload, bytes 1 to 3 of which are not examined (R146). -/
def loadPayload (c : LoadChannel) (unused : Byte × Byte × Byte) (offset : Nat) (data : List Byte) : List Byte :=
  [LoadChannel.number c, unused.1, unused.2.1, unused.2.2] ++ leBytes 4 offset ++ data

/-- The part after a carrier line has brought one whole packet to the end of its check: the line counted, the receiver
in HUNT, a packet that was in assembly discarded as ABORTED, the new one in the buffer (R3 to R9). -/
def heardPacket (destination kind : Byte) (payload checkBytes : List Byte) (s : State) : State :=
  (countBlankingLine s).setReceiver { s.receiver with
    assembly := .hunt
    buffer := packetBody destination kind payload
    declared := some payload.length
    check := crc (packetBody destination kind payload)
    received := checkBytes
    aborted := if s.receiver.assembly = .hunt then s.receiver.aborted else bump s.receiver.aborted }

/-- The same, once the packet has been taken and counted as accepted (R11). -/
def acceptedPacket (destination kind : Byte) (payload checkBytes : List Byte) (s : State) : State :=
  (heardPacket destination kind payload checkBytes s).setReceiver
    { (heardPacket destination kind payload checkBytes s).receiver with accepted := bump s.receiver.accepted }

/-! ## A window of grants -/

/-- The window after a grant: the grants counted, those to channels apart, the share read at the window's first grant,
and the counts back at 0 with the sixteenth (R167). -/
def windowAfter (s : State) (toChannel : Bool) : Arbiter :=
  let grants := s.arbiter.grants + 1
  let channelGrants := (if s.arbiter.grants = 0 then 0 else s.arbiter.channelGrants) + if toChannel then 1 else 0
  let share := if s.arbiter.grants = 0 then s.setup.canvas.loadShare.toNat else s.arbiter.share
  if 16 ≤ grants then ⟨0, 0, share⟩ else ⟨grants, channelGrants, share⟩

/-! ## Safe steps -/

/-- A step that neither faults nor is refused. -/
def Completes (r : Result) : Prop := ∃ t, r = .next t

/-! ## After a reset -/

/-- The state of the blocks that power-on and board reset leave alike (R17, R35, R53, R73, R97, R116, R137, R169, R181,
R189); that no latch means no frame lock state is the model's choice (log entry 33). -/
def FreshBlocks (straps : Fin 8) (t : State) : Prop :=
  (t.receiver.interval = false ∧ t.receiver.assembly = .hunt ∧ t.receiver.buffer = [] ∧
    t.receiver.symbolErrors = 0 ∧ t.receiver.aborted = 0 ∧ t.receiver.truncated = 0 ∧ t.receiver.overlength = 0 ∧
    t.receiver.badCheck = 0 ∧ t.receiver.accepted = 0 ∧ t.receiver.refusals = 0 ∧ t.receiver.lastRefusal = none) ∧
  (t.timing.inReset = true ∧ t.timing.lock = .noInput ∧ t.timing.measurements = [] ∧ t.timing.current = none ∧
    t.timing.timeout = none ∧ t.timing.generatorPeriod = none ∧ t.timing.source = .generator) ∧
  (t.setup.cursor = none ∧ t.setup.canvas = ⟨1920, 1080, Rgb.black, 4, 16667⟩ ∧
    t.setup.heads.read 0 = ⟨true, 0, 0, 1920, 1080, Rgb.black⟩ ∧
    (∀ i, i ≠ 0 → t.setup.heads.read i = ⟨false, 0, 0, 1920, 1080, Rgb.black⟩) ∧
    (∀ i, t.setup.slots.read i = SlotEntry.initial) ∧
    (∀ i, t.setup.formats.read i = ⟨.two, .before, .exclusive, 0, .exact, .g1, false, false, false⟩) ∧
    (∀ f, t.setup.fontHeights.read f = 8) ∧ (∀ k, t.setup.metrics.read k = ⟨false, 1, 1⟩) ∧
    (∀ k, t.setup.glyphs.read k = 0) ∧ (∀ i, t.setup.schedule.read i = ⟨false, 0, 0⟩) ∧
    (∀ g, t.setup.groups.read g = GroupEntry.initial)) ∧
  ((∀ i, t.live.items.read i = ⟨.hidden, .none, none, none⟩) ∧ (∀ b i, t.live.price b i = none) ∧
    (∀ i, t.live.bindings.read i = ⟨false, .none, .noTile⟩) ∧ t.live.generation = 0 ∧ t.live.liveBook = 0) ∧
  t.stager = ⟨[], [], [], false⟩ ∧
  (t.timeBase.clockSet = false ∧ t.timeBase.seconds = 0 ∧ t.timeBase.micros = 0 ∧ t.timeBase.reading = none ∧
    t.timeBase.daypart = none ∧ ∀ g, t.timeBase.runs.read g = ⟨0, 0, false, true, false⟩) ∧
  (t.engine.snapshot = none ∧ t.engine.computing = false ∧
    ∀ i, t.engine.frame.read i = RenderRecord.initial ∧ t.engine.published.read i = RenderRecord.initial) ∧
  (t.pictures.stalls = 0 ∧ t.pictures.surplus = 0 ∧
    ∀ c, (t.pictures.channel c).state = .idle ∧ (t.pictures.channel c).tile = 0 ∧ (t.pictures.channel c).received = 0 ∧
      (t.pictures.channel c).holding = [] ∧ (t.pictures.channel c).buffer = [] ∧ (t.pictures.channel c).stall = 0 ∧
      (t.pictures.channel c).endRows = none) ∧
  (t.fetch.fetching = false ∧ t.fetch.list = [] ∧ t.fetch.todo = [] ∧ t.fetch.filling = [] ∧ t.fetch.output = [] ∧
    (∀ k, t.fetch.tileLatch.read k = none) ∧ t.fetch.underruns = 0 ∧ t.fetch.oversubscribed = 0 ∧
    t.fetch.corrected = 0 ∧ t.fetch.uncorrectable = 0 ∧ t.arbiter.grants = 0 ∧ t.arbiter.channelGrants = 0) ∧
  (t.compositor.latch = none ∧ t.compositor.blanked = false) ∧
  t.port = ⟨straps, .idle, 0, 0⟩

/-! ## Properties that every step keeps -/

/-- The staging areas stay within their room (R74, R82, R88). -/
structure PoolBounded (s : State) : Prop where
  records : s.stager.openBatch.length + sealedRecords s.stager.sealed ≤ 128
  batches : s.stager.sealed.length ≤ 4
  pairs : s.stager.immediate.length ≤ 32

/-- The clock reads a time of day, and 0 while UNSET (R98). -/
structure ClockLegal (s : State) : Prop where
  seconds : s.timeBase.seconds < 86400
  micros : s.timeBase.micros < 1000000
  unset : s.timeBase.clockSet = false → s.timeBase.seconds = 0 ∧ s.timeBase.micros = 0

/-- A load channel as R143 describes it in each of its states. Between commands an ENDING channel has a word to write,
since a drain ends at the event that empties the buffer (R150). -/
structure ChannelLegal (x : Channel) : Prop where
  idle : x.state = .idle → x.holding = [] ∧ x.buffer = [] ∧ x.stall = 0 ∧ x.endRows = none
  opened : x.state = .opened → x.stall < 120 ∧ x.endRows = none
  ending : x.state = .ending → x.buffer ≠ [] ∧ x.holding = []
  received : x.received ≤ x.byteCount
  whole : x.byteCount % x.format.bytesPerPixel = 0
  split : x.state = .opened → x.holding.length = x.received % x.format.bytesPerPixel
  holding : x.holding.length ≤ 3
  buffer : x.buffer.length ≤ 1024

/-- A tile is LOADING exactly when one load channel targets it, no two channels target one tile (R141), and both
channels are as R143 describes. -/
structure LoadsCoherent (s : State) : Prop where
  loading : ∀ t : Byte, (s.pictures.directory.read t.toNat).state = .loading ↔
    (s.pictures.channelA.targets t = true ∨ s.pictures.channelB.targets t = true)
  apart : ∀ t : Byte, ¬ (s.pictures.channelA.targets t = true ∧ s.pictures.channelB.targets t = true)
  channelA : ChannelLegal s.pictures.channelA
  channelB : ChannelLegal s.pictures.channelB

/-- A load channel's tile as its TILES entry places it: the whole picture lies in picture memory, the byte count is the
picture's, and every word that waits has an address in the memory (R138, R144, R145, R147). -/
structure ChannelSafe (s : State) (x : Channel) : Prop where
  footprint : x.state ≠ .idle →
    (s.setup.tiles.read x.tile.toNat).base.toNat + (s.setup.tiles.read x.tile.toNat).pixels * 4 ≤ memoryBytes
  byteCount : x.state ≠ .idle →
    x.byteCount = (s.setup.tiles.read x.tile.toNat).pixels * x.format.bytesPerPixel
  endRows : ∀ k, x.endRows = some k → k ≤ (s.setup.tiles.read x.tile.toNat).height.toNat
  words : ∀ w ∈ x.buffer, w.address < memoryBytes

/-- Nothing the part may read or write lies outside picture memory: the pictures of READY tiles, the tiles latched for
the slots of the frame, the bursts still to be fetched and the words still to be written (R138, R141, R144, R157). The
tile directory is in its canonical form, so that a reset that clears a tile leaves it EMPTY. -/
structure PictureSafe (s : State) : Prop where
  loads : LoadsCoherent s
  directory : s.pictures.directory.wf = true
  ready : ∀ t : Byte, (s.pictures.directory.read t.toNat).state = .ready →
    (s.pictures.directory.read t.toNat).validRows ≤ (s.setup.tiles.read t.toNat).height.toNat
    ∧ (s.setup.tiles.read t.toNat).base.toNat + (s.setup.tiles.read t.toNat).pixels * 4 ≤ memoryBytes
  latched : ∀ (t : Byte) (rows : Nat), s.fetch.tileLatch.read t.toNat = some rows → tileShown s t = true →
    rows ≤ (s.setup.tiles.read t.toNat).height.toNat
    ∧ (s.setup.tiles.read t.toNat).base.toNat + (s.setup.tiles.read t.toNat).pixels * 4 ≤ memoryBytes
  bursts : ∀ e ∈ s.fetch.todo, e.nextBurst * 32 < e.past ∧ e.past ≤ memoryBytes
  channelA : ChannelSafe s s.pictures.channelA
  channelB : ChannelSafe s s.pictures.channelB

/-- A render record within the bounds of R126, R128 and R135: D up to 99999, at most 7 glyphs, codes 0 to 24. -/
structure RecordLegal (r : RenderRecord) : Prop where
  display : r.display ≤ 99999
  length : r.run.length ≤ 7
  codes : ∀ c ∈ r.run, c ≤ 24

/-- The frame records carry the live state's generation and the published records share one (R71, R120); while no
computation is going on the published records are the frame's (R120, R136); every record is within its bounds. -/
structure RecordsCoherent (s : State) : Prop where
  frameLegal : ∀ i, RecordLegal (s.engine.frame.read i)
  publishedLegal : ∀ i, RecordLegal (s.engine.published.read i)
  frameGeneration : ∀ i < 96, (s.engine.frame.read i).generation = s.live.generation
  publishedGeneration : ∃ g, ∀ i < 96, (s.engine.published.read i).generation = g
  published : s.engine.computing = false → ∀ i < 96, s.engine.published.read i = s.engine.frame.read i
  computing : s.engine.computing = true → s.engine.snapshot.isSome

/-- The fetch list is topmost first and holds at most 24 entries (R159), as do what is left of it and both stores; a
window in progress has at most 15 grants, those to channels among them (R167). -/
structure FetchBounded (s : State) : Prop where
  list : s.fetch.list.length ≤ 24
  topmostFirst : (s.fetch.list.map FetchEntry.slot).Pairwise (· > ·)
  todo : s.fetch.todo.length ≤ s.fetch.list.length
  filling : s.fetch.filling.length ≤ 24
  output : s.fetch.output.length ≤ 24
  reading : s.fetch.fetching = true ↔ s.fetch.todo ≠ []
  grants : s.arbiter.grants ≤ 15
  channelGrants : s.arbiter.channelGrants ≤ s.arbiter.grants

/-- Every group has 1 to 8 members and a dwell of at least 1; its index is below its member count and its dwell count
below its dwell (R50, R105). -/
structure GroupsLegal (s : State) : Prop where
  count : ∀ g, 1 ≤ (s.setup.groups.read g).count ∧ (s.setup.groups.read g).count ≤ 8
  dwell : ∀ g, 1 ≤ (s.setup.groups.read g).dwell.toNat
  index : ∀ g, (s.timeBase.runs.read g).index < (s.setup.groups.read g).count
  dwellCount : ∀ g, (s.timeBase.runs.read g).count < (s.setup.groups.read g).dwell.toNat

/-- The lock states in which input frames are measured (R19). -/
def LockState.measures : LockState → Bool
  | .acquiring => true
  | .locked => true
  | .mismatch => true
  | .noInput => false
  | .holdover => false

/-- How the timing unit's parts go together: the list holds at most three measurements, three once a median has been
tested (R20, R23); a measurement is in progress, and the timeout armed, exactly while input frames are measured (R19,
R26); only a LOCKED part runs on the input or waits for it (R28); a LOCKED part knows the generator period, which lies
within its bounds (R27); a blanking interval is open only while input frames arrive (R34); in reset there is no input, no
latch is taken (R35) and the clock is UNSET (R98). -/
structure TimingCoherent (s : State) : Prop where
  listed : s.timing.measurements.length ≤ 3
  tested : s.timing.lock = .locked ∨ s.timing.lock = .mismatch → s.timing.measurements.length = 3
  measuring : s.timing.current.isSome = s.timing.lock.measures
  armed : s.timing.timeout.isSome = s.timing.lock.measures
  source : s.timing.source ≠ .generator → s.timing.lock = .locked
  generatorFrame : s.timing.inReset = false → (s.timing.generatorFrame = none ↔ s.timing.source = .input)
  known : s.timing.lock = .locked → s.timing.generatorPeriod.isSome
  period : ∀ p, s.timing.generatorPeriod = some p → 8000 ≤ p ∧ p ≤ 50000
  interval : s.receiver.interval = true → s.timing.lock.measures = true
  inReset : s.timing.inReset = true → s.timing.lock = .noInput ∧ s.compositor.latch = none ∧
    s.timeBase.clockSet = false

/-- The Carrier Receiver in each assembly state: what the buffer holds, what length is declared, how many check bytes
have come (none before CHECK, R3), and the running check over the bytes so far (R4, R5, R6). A packet is in assembly only within an interval
(R10). -/
structure ReceiverLegal (s : State) : Prop where
  room : s.receiver.buffer.length ≤ 1028
  hunt : s.receiver.assembly ≠ .hunt → s.receiver.interval = true
  check : s.receiver.assembly ≠ .hunt → s.receiver.check = crc s.receiver.buffer
  header : s.receiver.assembly = .header →
    s.receiver.buffer.length < 4 ∧ s.receiver.declared = none ∧ s.receiver.received = []
  payload : s.receiver.assembly = .payload → ∃ l, s.receiver.declared = some l ∧ l ≤ 1024 ∧
    l = declaredLength s.receiver.buffer ∧ 4 ≤ s.receiver.buffer.length ∧ s.receiver.buffer.length < 4 + l ∧
    s.receiver.received = []
  ending : s.receiver.assembly = .check → ∃ l, s.receiver.declared = some l ∧ l ≤ 1024 ∧
    l = declaredLength s.receiver.buffer ∧ s.receiver.buffer.length = 4 + l ∧ s.receiver.received.length ≤ 1

/-- A number within a range. -/
def within (low high n : Nat) : Prop := low ≤ n ∧ n ≤ high

/-- The load shares that CANVAS holds (R43). -/
def legalShares : List Byte := [0, 2, 4, 8, 12]

/-- Every stored table field lies in the range its rule gives (R43 to R47, R50, R51), and the cursor stands in its table or
at its end (R37, R40). -/
structure SetupLegal (s : State) : Prop where
  canvas : within 64 8192 s.setup.canvas.width.toNat ∧ within 64 2304 s.setup.canvas.height.toNat
    ∧ s.setup.canvas.loadShare ∈ legalShares ∧ within 8000 50000 s.setup.canvas.nominalPeriod.toNat
  heads : ∀ i, within 1 4096 (s.setup.heads.read i).w.toNat ∧ within 1 2304 (s.setup.heads.read i).h.toNat
  slots : ∀ i, (s.setup.slots.read i).pw.toNat ≤ 8191 ∧ (s.setup.slots.read i).ph.toNat ≤ 8191
  fonts : ∀ f, within 8 96 (s.setup.fontHeights.read f).toNat
  metrics : ∀ k, within 1 64 (s.setup.metrics.read k).width.toNat ∧ within 1 80 (s.setup.metrics.read k).advance.toNat
  groups : ∀ g, within 1 8 (s.setup.groups.read g).count ∧ 1 ≤ (s.setup.groups.read g).dwell.toNat
  tiles : ∀ i, (s.setup.tiles.read i).base.toNat % 256 = 0 ∧ (s.setup.tiles.read i).base.toNat < memoryBytes
    ∧ within 1 1024 (s.setup.tiles.read i).width.toNat ∧ within 1 1024 (s.setup.tiles.read i).height.toNat
  cursor : ∀ c, s.setup.cursor = some c → c.index ≤ c.table.entries

/-- The canvas lines that have gone by in the current frame: no more than the latched canvas has, each of the canvas's
width except in a blanked frame (R31, R171). -/
structure LinesLegal (s : State) : Prop where
  lines : ∀ l, s.compositor.latch = some l → s.compositor.lines.length ≤ l.height
  columns : ∀ l, s.compositor.latch = some l → s.compositor.blanked = false →
    ∀ canvasRow ∈ s.compositor.lines, canvasRow.length = l.width

/-- A snapshot's tables are in their canonical form. -/
structure Snapshot.Canonical (p : Snapshot) : Prop where
  items : p.live.items.wf = true
  books : p.live.books.wf = true
  bindings : p.live.bindings.wf = true
  members : p.members.wf = true
  slots : p.slots.wf = true
  formats : p.formats.wf = true
  fontHeights : p.fontHeights.wf = true
  metrics : p.metrics.wf = true

/-- Picture memory and every table of the state stand in their canonical form, so that equal contents are equal data. -/
structure Canonical (s : State) : Prop where
  memory : s.memory.wf = true
  heads : s.setup.heads.wf = true
  slots : s.setup.slots.wf = true
  formats : s.setup.formats.wf = true
  fontHeights : s.setup.fontHeights.wf = true
  metrics : s.setup.metrics.wf = true
  glyphs : s.setup.glyphs.wf = true
  schedule : s.setup.schedule.wf = true
  groups : s.setup.groups.wf = true
  tiles : s.setup.tiles.wf = true
  items : s.live.items.wf = true
  books : s.live.books.wf = true
  bindings : s.live.bindings.wf = true
  runs : s.timeBase.runs.wf = true
  frame : s.engine.frame.wf = true
  published : s.engine.published.wf = true
  snapshot : ∀ p, s.engine.snapshot = some p → p.Canonical
  directory : s.pictures.directory.wf = true
  tileLatch : s.fetch.tileLatch.wf = true
  fetchSlots : s.fetch.slots.wf = true
  latch : ∀ l, s.compositor.latch = some l → l.heads.wf = true ∧ l.slots.wf = true

end Sys2Proof.Machine
end

