-- ==== Sys2Proof/Certificates/Slice0/Obligations.lean ====
section
/-! DEFINITION. The statements for the provers: what each command does and leaves alone, by the manual's rules, and
what every step keeps. -/

open Sys2Proof Sys2Proof.Machine

/-! ## The queue and the outcomes -/

/-- A step runs the command at the front of the queue on the state with the queue's rest. With nothing waiting the part
idles, which is the model's choice (log entry 2). -/
def Obligations.StepTakesFront : Prop :=
  (∀ (c : Instr) (rest : List Instr) (s : State), s.pending = c :: rest → step s = exec c (s.setPending rest)) ∧
  ∀ s : State, s.pending = [] → step s = .next s

/-- No command touches the queue, none is refused by the model, and only GRANT can fault. -/
def Obligations.CommandsComplete : Prop :=
  ∀ (c : Instr) (s : State),
    (∀ t, exec c s = .next t → t.pending = s.pending) ∧
    (∀ r, exec c s ≠ .refused r) ∧
    (∀ f, exec c s = .fault f → ∃ check, c = .grant check)

/-! ## What every step keeps -/

/-- The part right after power-on has every property that the steps keep. -/
def Obligations.ResetIsLegal : Prop :=
  PoolBounded State.reset ∧ ClockLegal State.reset ∧ LoadsCoherent State.reset ∧ PictureSafe State.reset ∧
  RecordsCoherent State.reset ∧ FetchBounded State.reset ∧ GroupsLegal State.reset ∧ TimingCoherent State.reset ∧
  ReceiverLegal State.reset ∧ SetupLegal State.reset ∧ LinesLegal State.reset ∧ Canonical State.reset

/-- The pool of 128 records, the four sealed batches and the 32 immediate pairs are never exceeded (R74, R82, R88). -/
def Claims.PoolStaysBounded : Prop :=
  ∀ s t : State, PoolBounded s → step s = .next t → PoolBounded t

/-- The clock stays a time of day, and at 0 while UNSET (R98). -/
def Claims.ClockStaysLegal : Prop :=
  ∀ s t : State, ClockLegal s → step s = .next t → ClockLegal t

/-- A tile is LOADING exactly when one channel targets it, no tile has two channels, and each channel stays as R143
describes it (R141, R143, R147, R150). -/
def Obligations.LoadsStayCoherent : Prop :=
  ∀ s t : State, LoadsCoherent s → step s = .next t → LoadsCoherent t

/-- From a state whose pictures lie in picture memory no step faults, and the next state's pictures lie there too
(R138, R141, R144, R157). -/
def Obligations.PicturesStayInMemory : Prop :=
  ∀ s : State, PictureSafe s → (∀ f, step s ≠ .fault f) ∧ ∀ t, step s = .next t → PictureSafe t

/-- The 96 frame records are of the live state's generation, the published records of one generation, and every record
is within its bounds (R120, R126, R128). -/
def Obligations.RecordsStayCoherent : Prop :=
  ∀ s t : State, RecordsCoherent s → step s = .next t → RecordsCoherent t

/-- A fetch list never holds more than 24 entries, topmost first, and a window never more than 15 grants (R159,
R167). -/
def Obligations.FetchStaysBounded : Prop :=
  ∀ s t : State, FetchBounded s → step s = .next t → FetchBounded t

/-- Every rotation group's index stays below its member count and its dwell count below its dwell (R105). -/
def Claims.GroupsStayLegal : Prop :=
  ∀ s t : State, GroupsLegal s → step s = .next t → GroupsLegal t

/-- Every step keeps the bounds of the staging areas, of the clock and of the rotation groups (R74, R82, R88, R98, R105). -/
def Obligations.StagerClockGroupsKept : Prop :=
  Claims.PoolStaysBounded ∧ Claims.ClockStaysLegal ∧ Claims.GroupsStayLegal

/-- The timing unit's parts stay in agreement: only a LOCKED part runs on the input's timing, only while frames arrive
is one measured, the timeout armed and an interval open; in reset there is no input, no latch and no set clock (R19, R20,
R26, R27, R28, R34, R98). That a packet row sent in reset is carried out, and that the frame lock state goes
with the latch, is the model's choice (log entries 6, 33). -/
def Obligations.TimingStaysCoherent : Prop :=
  ∀ s t : State, TimingCoherent s → step s = .next t → TimingCoherent t

/-- The Carrier Receiver's buffer, declared length, running check and received check bytes stay as its assembly state
requires, no check byte is held before CHECK, and no packet is in assembly outside an interval (R3, R4, R5, R6, R10). -/
def Obligations.ReceiverStaysLegal : Prop :=
  ∀ s t : State, ReceiverLegal s → step s = .next t → ReceiverLegal t

/-- Every field of the setup tables that its rule bounds stays in its range, the member counts and dwells of GROUPS among
them, and the cursor in its table or at its end (R37, R40, R43 to R47, R50, R51). -/
def Obligations.SetupStaysLegal : Prop :=
  ∀ s t : State, SetupLegal s → step s = .next t → SetupLegal t

/-- Picture memory and every table stay in canonical form. -/
def Obligations.CanonicalFormKept : Prop :=
  ∀ s t : State, Canonical s → step s = .next t → Canonical t

/-! ## Rules of the whole part -/

/-- The live price state changes only at a power-on, a board reset, or an event at which a frame begins (R58). -/
def Claims.LiveChangesAtBoundaries : Prop :=
  ∀ (c : Instr) (s t : State), exec c s = .next t → t.live ≠ s.live →
    (∃ straps, c = .powerOn straps ∨ c = .boardReset straps) ∨
    ((c = .resetComplete ∨ c = .inputTimeout ∨ c = .generatorFrameEnd ∨ ∃ a b, c = .inputFrameStart a b) ∧
      t.timing.frameStart = s.now ∧ t.compositor.latch.isSome ∧ t.compositor.lines = [] ∧ t.engine.computing = true)

/-- A byte of picture memory changes only at power-on, or at the grant that writes the front burst of the granted
channel, and then only within that burst (R138, R139, R149). -/
def Obligations.OnlyBurstsAreWritten : Prop :=
  ∀ (c : Instr) (s t : State) (a : Nat), exec c s = .next t → t.memory.read a ≠ s.memory.read a →
    (∃ straps, c = .powerOn straps) ∨
    ∃ check ch w, c = .grant check ∧ grantee s = some (.channel ch) ∧
      (s.pictures.channel ch).buffer.head? = some w ∧ a / 32 = w.burst

/-- The lock is won only at an input frame start whose median matches the canvas, and is lost only at an input frame
start, at the input timeout or at a reset (R23 to R26, R35). -/
def Claims.LockIsWonAtFrameStart : Prop :=
  ∀ (c : Instr) (s t : State), exec c s = .next t →
    (t.timing.lock = .locked → s.timing.lock ≠ .locked →
      (∃ a b, c = .inputFrameStart a b) ∧
      ∃ m, acceptedGeometry t.timing.measurements = some m ∧ matchesCanvas m s.setup.canvas = true) ∧
    (t.timing.lock ≠ .locked → s.timing.lock = .locked →
      (∃ a b, c = .inputFrameStart a b) ∨ c = .inputTimeout ∨ ∃ straps, c = .powerOn straps ∨ c = .boardReset straps)

/-- When the live price state and the lock may change (R23 to R26, R35, R58). -/
def Obligations.LiveAndLockChanges : Prop :=
  Claims.LiveChangesAtBoundaries ∧ Claims.LockIsWonAtFrameStart

/-! ## The three resets -/

/-- POWER_ON gives every block its power-on state, with the node number of the straps; every tile is EMPTY and every
TILES entry at its default (R17, R35, R51, R53, R73, R97, R116, R137, R156, R169, R182, R189). -/
def Claims.PowerOnState : Prop :=
  ∀ (straps : Fin 8) (s : State), ∃ t, exec (.powerOn straps) s = .next t ∧ FreshBlocks straps t ∧
    (∀ i, t.setup.tiles.read i = ⟨0, 1, 1, .solid⟩) ∧ (∀ k, t.pictures.directory.read k = ⟨.empty, 0⟩) ∧
    t.now = s.now ∧ t.pending = s.pending

/-- BOARD_RESET gives every block its board-reset state; it keeps the TILES entries, the picture memory and the records
of the tiles that are not LOADING, and empties those that are (R35, R53, R138, R156). -/
def Claims.BoardResetState : Prop :=
  ∀ (straps : Fin 8) (s : State), s.pictures.directory.wf = true →
    ∃ t, exec (.boardReset straps) s = .next t ∧ FreshBlocks straps t ∧
    (∀ i, t.setup.tiles.read i = s.setup.tiles.read i) ∧
    (∀ k, t.pictures.directory.read k =
      if (s.pictures.directory.read k).state = .loading then ⟨.empty, 0⟩ else s.pictures.directory.read k) ∧
    (∀ a, t.memory.read a = s.memory.read a) ∧ t.now = s.now ∧ t.pending = s.pending

/-- RESET_COMPLETE in reset ends it with a frame boundary on generator timing. In the state that a power-on or board
reset leaves, that first frame is a generator frame of 16667 µs over 1080 lines with lock state NO_INPUT, black plate,
every record invisible with generation 0 and every group at index 0, and it begins when the command runs. Outside a
reset the row changes nothing (R27, R28, R35, R116, R137, R181). -/
def Claims.ResetCompleteBeginsFirstFrame : Prop :=
  (∀ s : State, s.timing.inReset = false → exec .resetComplete s = .next s) ∧
  (∀ s : State, s.timing.inReset = true →
    exec .resetComplete s =
      .next (frameBoundary .generator { s with timing := { s.timing with inReset := false } })) ∧
  ∀ (straps : Fin 8) (u : State), FreshBlocks straps u →
    ∃ t, exec .resetComplete u = .next t ∧ t.timing.inReset = false ∧ t.timing.source = .generator ∧
      t.timing.lock = .noInput ∧ t.timing.frameStart = u.now ∧ t.timing.generatorFrame = some ⟨16667, 1080⟩ ∧
      (∃ l, t.compositor.latch = some l ∧ l.lock = .noInput ∧ l.width = 1920 ∧ l.height = 1080 ∧ l.plate = Rgb.black ∧
        (l.heads.read 0).enabled = true ∧ ∀ h, h ≠ 0 → (l.heads.read h).enabled = false) ∧
      (∀ i, t.engine.frame.read i = RenderRecord.initial) ∧ t.live.liveBook = 0 ∧ t.live.generation = 0 ∧
      t.timeBase.reading = none ∧ t.timeBase.daypart = none ∧
      (∀ g < 16, t.timeBase.runs.read g = ⟨0, 0, false, false, false⟩) ∧ t.fetch.list = [] ∧ t.port.node = straps

/-- What POWER_ON, BOARD_RESET and RESET_COMPLETE leave (R35). The oscillator count goes on across a reset by the
model's choice (log entry 4); that RESET_COMPLETE outside a reset changes nothing (log entry 5), that the frame begins
at the microsecond the command runs (log entry 27), that the straps come with the row that resets (log entry 30), and
that a reset leaves no frame lock state (log entry 33) are the model's too. -/
def Obligations.ResetStates : Prop :=
  Claims.PowerOnState ∧ Claims.BoardResetState ∧ Claims.ResetCompleteBeginsFirstFrame

/-- SOFT_RESET with an empty payload clears staging, loads, line fetch, reply, cursor and counters, and keeps tables,
live state, clock, groups, timing, node number, records, latches and picture memory; with any payload it is refused
and resets nothing. In a frame that is not blanked the fetch of the next line, or of line 0 before any was output,
begins again at once from the latches, and the line in output is composed anew without tiles from some column on; in a
blanked frame, or with no frame, no line is fetched (R16, R53, R73, R97, R117, R137, R156, R159, R163, R169, R181,
R189). Where a receiver register, the source
format, the byte count and the load share stand after it is the model's choice (log entries 10, 15, 16), and so is the
free column at which the line in output is cut (log entry 13). -/
def Obligations.SoftResetOutcome : Prop :=
  (∀ (payload : List Byte) (s : State), payload ≠ [] →
    exec (.softReset payload) s = .next (refuse .badLength .softReset s)) ∧
  ∀ s : State, s.pictures.directory.wf = true → ∃ t, exec (.softReset []) s = .next t ∧
    t.receiver = ⟨s.receiver.interval, .hunt, [], none, 0xFFFF, [], 0, 0, 0, 0, 0, 0, 0, none⟩ ∧
    t.setup = { s.setup with cursor := none } ∧ t.stager = ⟨[], [], [], false⟩ ∧
    (∀ k, t.pictures.directory.read k =
      if (s.pictures.directory.read k).state = .loading then ⟨.empty, 0⟩ else s.pictures.directory.read k) ∧
    (∀ c, (t.pictures.channel c).state = .idle ∧ (t.pictures.channel c).tile = 0 ∧ (t.pictures.channel c).received = 0 ∧
      (t.pictures.channel c).holding = [] ∧ (t.pictures.channel c).buffer = [] ∧ (t.pictures.channel c).stall = 0 ∧
      (t.pictures.channel c).endRows = none) ∧
    t.pictures.stalls = 0 ∧ t.pictures.surplus = 0 ∧
    t.fetch.tileLatch = s.fetch.tileLatch ∧ t.fetch.width = s.fetch.width ∧ t.fetch.height = s.fetch.height ∧
    t.fetch.slots = s.fetch.slots ∧ t.fetch.output = [] ∧ (∀ e ∈ t.fetch.filling, e.words = [] ∧ e.complete = false) ∧
    t.fetch.underruns = 0 ∧ t.fetch.corrected = 0 ∧ t.fetch.uncorrectable = 0 ∧
    t.arbiter.grants = 0 ∧ t.arbiter.channelGrants = 0 ∧
    t.port = ⟨s.port.node, .idle, 0, 0⟩ ∧ t.timing = s.timing ∧ t.live = s.live ∧ t.timeBase = s.timeBase ∧
    t.engine = s.engine ∧ t.memory = s.memory ∧ t.compositor.latch = s.compositor.latch ∧
    t.compositor.blanked = s.compositor.blanked ∧ t.compositor.inputLine = s.compositor.inputLine ∧
    t.compositor.lines.length = s.compositor.lines.length ∧ t.now = s.now ∧
    ((s.compositor.latch = none ∨ s.compositor.blanked = true) →
      t.fetch.list = [] ∧ t.fetch.todo = [] ∧ t.fetch.fetching = false ∧ t.fetch.filling = [] ∧
      t.fetch.oversubscribed = 0 ∧ t.compositor = s.compositor) ∧
    ∀ l, s.compositor.latch = some l → s.compositor.blanked = false →
      let y := s.compositor.lines.length
      let crossing := (List.range 96).reverse.filterMap (fetchEntry s y)
      (s.fetch.height ≤ y → t.fetch.list = [] ∧ t.fetch.todo = [] ∧ t.fetch.fetching = false ∧ t.fetch.filling = [] ∧
        t.fetch.oversubscribed = 0) ∧
      (y < s.fetch.height →
        t.fetch.list = crossing.take 24 ∧ t.fetch.todo = crossing.take 24 ∧ t.fetch.fetching = !crossing.isEmpty ∧
        t.fetch.filling = (crossing.take 24).map (fun e => ⟨e.slot, e.canvasColumn, [], false⟩) ∧
        t.fetch.oversubscribed = if 24 < crossing.length then 1 else 0) ∧
      (s.compositor.lines = [] → t.compositor = s.compositor) ∧
      ∀ before line, s.compositor.lines = before ++ [line] → ∃ k,
        t.compositor.lines = before ++ [line.take k ++ ((List.range l.width).map fun x =>
          (List.range 96).foldl ((drawingSet t l []).slot x (y - 1))
            (if l.lock = .locked then s.compositor.inputLine.getD x l.plate else l.plate)).drop k]

/-! ## Counters and refusals -/

/-- A counter goes up by one and stops at 65535 (R12), also by many at once (R147). -/
def Claims.CountersSaturate : Prop :=
  (∀ c : Word16, (bump c).toNat = min 65535 (c.toNat + 1)) ∧
  ∀ (c : Word16) (n : Nat), (bumpBy c n).toNat = min 65535 (c.toNat + n)

/-- A refusal moves the refusal counter and the last-refusal record and nothing else (R14); an accepted packet of
unknown kind draws one with BAD_KIND and its kind code (R15). -/
def Claims.RefusalIsRecorded : Prop :=
  (∀ (code : RefusalCode) (kind : PacketKind) (s : State), refuse code kind s = { s with
    receiver := { s.receiver with refusals := bump s.receiver.refusals, lastRefusal := some (code, kind.code) } }) ∧
  ∀ (code : Byte) (s : State), exec (.badKind code) s = .next { s with
    receiver := { s.receiver with refusals := bump s.receiver.refusals, lastRefusal := some (.badKind, code) } }

/-- CLEAR_COUNTERS with an empty payload sets every counter and the last refusal to 0 and changes nothing else; with
any payload it is refused (R188). -/
def Claims.ClearCountersOutcome : Prop :=
  (∀ (payload : List Byte) (s : State), payload ≠ [] →
    exec (.clearCounters payload) s = .next (refuse .badLength .clearCounters s)) ∧
  ∀ s : State, exec (.clearCounters []) s = .next { s with
    receiver := { s.receiver with
      symbolErrors := 0, aborted := 0, truncated := 0, overlength := 0, badCheck := 0
      accepted := 0, refusals := 0, lastRefusal := none }
    fetch := { s.fetch with underruns := 0, oversubscribed := 0, corrected := 0, uncorrectable := 0 }
    pictures := { s.pictures with stalls := 0, surplus := 0 }
    port := { s.port with collisions := 0, replyTimeouts := 0 } }

/-- Counters saturate, a refusal is counted and recorded and touches nothing else, BAD_KIND is one, and CLEAR_COUNTERS sets
every counter and the last refusal to 0 (R12, R14, R15, R188). -/
def Obligations.CountersAndRefusals : Prop :=
  Claims.CountersSaturate ∧ Claims.RefusalIsRecorded ∧ Claims.ClearCountersOutcome

/-! ## The Carrier Receiver -/

/-- The running check is the CRC with polynomial x^16 + x^12 + x^5 + 1 from 0xFFFF, most significant bit first: its
check value is 0x29B1, folding two byte strings is linear over exclusive-or, and a good packet with its two check bytes,
high byte first, leaves the register at 0 (R6). -/
def Obligations.CheckIsCcittCrc : Prop :=
  crc [0x31, 0x32, 0x33, 0x34, 0x35, 0x36, 0x37, 0x38, 0x39] = 0x29B1 ∧
  (∀ (c d : Word16) (v w : Byte), crcByte (c ^^^ d) (v ^^^ w) = crcByte c v ^^^ crcByte d w) ∧
  ∀ bytes : List Byte, crc (bytes ++ (word16Bytes (crc bytes)).reverse) = 0

/-- Outside an interval no line is examined. Within one, a blanking line without the mark is counted as a blanking line
and read no further: everything but the timing unit's two line counts stays (R1, R19, R31). -/
def Claims.UnmarkedLinesAreOnlyCounted : Prop :=
  (∀ (pixels : List Rgb) (s : State), s.receiver.interval = false → exec (.carrierLine pixels) s = .next s) ∧
  ∀ (pixels : List Rgb) (s : State), s.receiver.interval = true →
    (pixels.length < 17 ∨ pixels.take 16 ≠ markPixels) →
    exec (.carrierLine pixels) s = .next { s with timing := { s.timing with
      current := s.timing.current.map fun p => { p with blankingLines := min 65535 (p.blankingLines + 1) }
      blankingPassed := s.timing.blankingPassed + if s.timing.source = .input then 1 else 0 } }

/-- A carrier line that carries one good packet for this node, or for every node, acts as the packet's own command on
the state in which the packet has been counted as accepted: the owner's command for each of the nineteen kinds,
BAD_KIND for any other kind code (R1 to R7, R11, R13, R15). That the buffer and the check registers keep their
contents in HUNT is the model's choice (log entry 10), and so is that a malformed QUERY is the QUERY_STATUS row (log
entry 19). -/
def Obligations.PacketLineActsAsItsCommand : Prop :=
  ∀ (destination : Byte) (payload : List Byte) (s : State), payload.length ≤ 1024 → s.receiver.interval = true →
    (destination.toNat = s.port.node.val ∨ destination = 15) →
    (∀ kind : PacketKind,
      exec (.carrierLine (packetLine destination kind.code payload (goodCheck destination kind.code payload))) s =
        exec (packetCommand kind (destination == 15) payload)
          (acceptedPacket destination kind.code payload (goodCheck destination kind.code payload) s)) ∧
    ∀ code : Byte, (∀ kind : PacketKind, kind.code ≠ code) →
      exec (.carrierLine (packetLine destination code payload (goodCheck destination code payload))) s =
        exec (.badKind code) (acceptedPacket destination code payload (goodCheck destination code payload) s)

/-- A good packet for another node is ignored: nothing is counted but the blanking line and, where a packet was in
assembly before, its abort. A packet whose check bytes differ from its check is discarded as BAD_CHECK, whatever its
destination (R5, R7, R11). -/
def Claims.PacketLineNotTaken : Prop :=
  (∀ (destination kind : Byte) (payload : List Byte) (s : State), payload.length ≤ 1024 → s.receiver.interval = true →
    destination.toNat ≠ s.port.node.val → destination ≠ 15 →
    exec (.carrierLine (packetLine destination kind payload (goodCheck destination kind payload))) s =
      .next (heardPacket destination kind payload (goodCheck destination kind payload) s)) ∧
  ∀ (destination kind low high : Byte) (payload : List Byte) (s : State), payload.length ≤ 1024 →
    s.receiver.interval = true → low.toNat + 256 * high.toNat ≠ (crc (packetBody destination kind payload)).toNat →
    exec (.carrierLine (packetLine destination kind payload [low, high])) s =
      .next ((heardPacket destination kind payload [low, high] s).setReceiver
        { (heardPacket destination kind payload [low, high] s).receiver with
          buffer := [], badCheck := bump s.receiver.badCheck })

/-- A packet that declares more than 1024 payload bytes is discarded as OVERLENGTH at its fourth header byte (R4). -/
def Claims.OverlengthIsDiscarded : Prop :=
  ∀ (destination kind low high : Byte) (s : State), s.receiver.interval = true → s.receiver.assembly = .hunt →
    1024 < low.toNat + 256 * high.toNat →
    exec (.carrierLine (markPixels ++ startPixel :: [destination, kind, low, high].map dataPixel)) s =
      .next ((countBlankingLine s).setReceiver { s.receiver with
        assembly := .hunt, buffer := [], declared := none, received := []
        check := crc [destination, kind, low, high], overlength := bump s.receiver.overlength })

/-- Good packets for other nodes are ignored; a wrong check and an overlong declaration discard the packet (R4, R7,
R11). What the registers that no rule clears keep is the model's choice (log entry 10). -/
def Obligations.PacketLineDiscarded : Prop :=
  Claims.PacketLineNotTaken ∧ Claims.OverlengthIsDiscarded

/-- What one symbol of a carrier line does to a packet in assembly, and in HUNT: a START begins a packet, and counts an
ABORTED one where one was in assembly; a pixel whose red and green do not sum to 255 or whose blue is no class value
discards it as SYMBOL_ERROR, and counts nothing in HUNT; an IDLE symbol is passed over, and so is a DATA symbol in HUNT
(R2, R3, R5, R8, R9). -/
def Claims.SymbolsInAssembly : Prop :=
  ∀ s : State, s.receiver.interval = true →
    (∀ green : Byte, exec (.carrierLine (markPixels ++ [⟨255 - green, green, 0xF0⟩])) s =
      .next ((countBlankingLine s).setReceiver { s.receiver with
        assembly := .header, buffer := [], declared := none, check := 0xFFFF, received := []
        aborted := if s.receiver.assembly = .hunt then s.receiver.aborted else bump s.receiver.aborted })) ∧
    (∀ p : Rgb, (p.red.toNat + p.green.toNat ≠ 255 ∨ p.blue ∉ [(0x00 : Byte), 0xF0, 0x0F]) →
      exec (.carrierLine (markPixels ++ [p])) s =
        .next ((countBlankingLine s).setReceiver
          (if s.receiver.assembly = .hunt then s.receiver
          else { s.receiver with
            assembly := .hunt, buffer := [], symbolErrors := bump s.receiver.symbolErrors }))) ∧
    (∀ green : Byte, exec (.carrierLine (markPixels ++ [⟨255 - green, green, 0x0F⟩])) s = .next (countBlankingLine s)) ∧
    ∀ v : Byte, s.receiver.assembly = .hunt →
      exec (.carrierLine (markPixels ++ [dataPixel v])) s = .next (countBlankingLine s)

/-- A DATA symbol in HEADER and in PAYLOAD joins the buffer and the running check; the fourth header byte settles the
declared length, which makes the packet OVERLENGTH above 1024 and sends an empty one to CHECK at once, and the last
payload byte sends it to CHECK (R4, R5, R6). -/
def Claims.DataInAssembly : Prop :=
  ∀ (v : Byte) (s : State), s.receiver.interval = true →
    let r := s.receiver
    let line := Instr.carrierLine (markPixels ++ [dataPixel v])
    let counted := countBlankingLine s
    let joined := { r with buffer := r.buffer ++ [v], check := crcByte r.check v }
    let length := (byteAt r.buffer 2).toNat + 256 * v.toNat
    (r.assembly = .header → r.buffer.length < 3 → exec line s = .next (counted.setReceiver joined)) ∧
    (r.assembly = .header → r.buffer.length = 3 → 1024 < length →
      exec line s = .next (counted.setReceiver { joined with
        assembly := .hunt, buffer := [], overlength := bump r.overlength })) ∧
    (r.assembly = .header → r.buffer.length = 3 → length ≤ 1024 →
      exec line s = .next (counted.setReceiver { joined with
        declared := some length, assembly := if length = 0 then .check else .payload })) ∧
    ∀ l, r.assembly = .payload → r.declared = some l →
      exec line s = .next (counted.setReceiver { joined with
        assembly := if r.buffer.length + 1 < 4 + l then .payload else .check })

/-- A DATA symbol in CHECK: the first is the low byte of the received check and waits; the second ends the packet. A
check that differs from the running one is BAD_CHECK; a good packet for another node is ignored; one for this node, or
for every node, is counted as accepted and acts as its own command (R5, R7, R11, R13, R15). -/
def Claims.DataInCheck : Prop :=
  ∀ (v : Byte) (s : State), s.receiver.interval = true → s.receiver.assembly = .check →
    let r := s.receiver
    let line := Instr.carrierLine (markPixels ++ [dataPixel v])
    let counted := countBlankingLine s
    (r.received = [] → exec line s = .next (counted.setReceiver { r with received := [v] })) ∧
    ∀ low : Byte, r.received = [low] →
      let ended := { r with assembly := .hunt, received := [low, v] }
      let destination := byteAt r.buffer 0
      let mine := destination.toNat = s.port.node.val ∨ destination = 15
      let taken := counted.setReceiver { ended with accepted := bump r.accepted }
      (low.toNat + 256 * v.toNat ≠ r.check.toNat →
        exec line s = .next (counted.setReceiver { ended with buffer := [], badCheck := bump r.badCheck })) ∧
      (low.toNat + 256 * v.toNat = r.check.toNat → ¬ mine → exec line s = .next (counted.setReceiver ended)) ∧
      (low.toNat + 256 * v.toNat = r.check.toNat → mine →
        (∀ kind : PacketKind, kind.code = byteAt r.buffer 1 →
          exec line s = exec (packetCommand kind (destination == 15) (r.buffer.drop 4)) taken) ∧
        ((∀ kind : PacketKind, kind.code ≠ byteAt r.buffer 1) →
          exec line s = exec (.badKind (byteAt r.buffer 1)) taken))

/-- A carrier line is its symbols taken in turn, from pixel 16 to pixel 8191, whatever packet the line before left in
assembly; a line cut in two anywhere does the same symbols over two lines (R1, R3, R5). -/
def Claims.LinesAreTheirSymbols : Prop :=
  (∀ (p : Rgb) (s : State), s.receiver.interval = true →
    exec (.carrierLine (markPixels ++ [p])) s = .next (takeSymbol (countBlankingLine s) p)) ∧
  ∀ (symbols : List Rgb) (s : State), s.receiver.interval = true → symbols ≠ [] →
    exec (.carrierLine (markPixels ++ symbols)) s =
      .next ((symbols.take 8176).foldl takeSymbol (countBlankingLine s))

/-- Lines without the mark are only counted, what START, IDLE, DATA and faulty symbols do in each assembly state, and
that a line is its symbols in turn (R1 to R9, R11, R13, R15). That CARRIER_LINE stands for any blanking line, that a line
outside an interval is no event, and what the registers that no rule clears keep, is the model's choice (log entries 5,
7, 10). -/
def Obligations.CarrierSymbols : Prop :=
  Claims.UnmarkedLinesAreOnlyCounted ∧ Claims.SymbolsInAssembly ∧ Claims.DataInAssembly ∧ Claims.DataInCheck ∧
  Claims.LinesAreTheirSymbols

/-- The first active line ends the interval: a packet in assembly is discarded as TRUNCATED, and the measurement takes
the line's width. An input-timed frame with fewer than 10 blanking lines becomes a blanked frame and its line fetch is
abandoned uncounted. Outside an interval nothing happens (R10, R19, R31, R163). That the row changes nothing outside
an interval, that the line's width is an operand, and what the registers that no rule clears keep, is the model's choice
(log entries 5, 8, 10). -/
def Obligations.FirstActiveLineOutcome : Prop :=
  (∀ (width : Nat) (s : State), s.receiver.interval = false → exec (.firstActiveLine width) s = .next s) ∧
  ∀ (width : Nat) (s : State), s.receiver.interval = true →
    let receiver := if s.receiver.assembly = .hunt then { s.receiver with interval := false }
      else { s.receiver with
        interval := false, assembly := .hunt, buffer := [], truncated := bump s.receiver.truncated }
    let timing := { s.timing with
      current := s.timing.current.map fun p => { p with activeWidth := min 65535 width, activeLines := 1 } }
    exec (.firstActiveLine width) s =
      .next (if s.timing.source = .input ∧ s.timing.blankingPassed < 10 then
        { s with
          receiver := receiver
          timing := timing
          compositor := { s.compositor with blanked := true }
          fetch := { s.fetch with list := [], todo := [], fetching := false, filling := [] } }
      else { s with receiver := receiver, timing := timing })

/-! ## The Table Loader -/

/-- The tables by id, which table each id names, with their entry counts, entry sizes and whether they are read-only;
every other id is unknown (R36). -/
def Claims.TablesById : Prop :=
  ((List.range 24).filterMap TableId.ofNumber).map (fun t => (t.entries, t.entryBytes, t.readOnly)) =
    [(1, 16, false), (4, 16, false), (96, 32, false), (8, 8, false), (104, 4, false), (76800, 1, false),
     (76800, 1, false), (76800, 1, false), (76800, 1, false), (8, 4, false), (16, 20, false), (256, 12, false),
     (1024, 8, true), (1024, 4, true), (1024, 4, true), (1024, 4, true), (1024, 4, true), (96, 4, true),
     (96, 16, true), (16, 4, true)] ∧
  (List.range 24).filterMap TableId.ofNumber =
    [.canvas, .heads, .slots, .formats, .fontMetrics, .glyphs 0, .glyphs 1, .glyphs 2, .glyphs 3, .schedule, .groups,
     .tiles, .items, .book 0, .book 1, .book 2, .book 3, .bindings, .render, .groupState] ∧
  (∀ f : Fin 4, TableId.ofNumber (5 + f.val) = some (.glyphs f) ∧ TableId.ofNumber (17 + f.val) = some (.book f)) ∧
  ∀ n, TableId.ofNumber n = none ↔ (12 ≤ n ∧ n ≤ 15) ∨ 24 ≤ n

/-- SELECT places the cursor on the table and index it names, read-only tables included; a payload length other than 4,
an unknown id and an index at or past the entry count are refused and leave the cursor (R37). -/
def Claims.SelectOutcome : Prop :=
  ∀ (payload : List Byte) (s : State),
    (payload.length ≠ 4 → exec (.select payload) s = .next (refuse .badLength .select s)) ∧
    (payload.length = 4 → TableId.ofNumber (byteAt payload 0).toNat = none →
      exec (.select payload) s = .next (refuse .badField .select s)) ∧
    ∀ table, payload.length = 4 → TableId.ofNumber (byteAt payload 0).toNat = some table →
      (table.entries ≤ field payload 1 3 → exec (.select payload) s = .next (refuse .badField .select s)) ∧
      (field payload 1 3 < table.entries →
        exec (.select payload) s = .next { s with
          setup := { s.setup with cursor := some ⟨table, field payload 1 3⟩ } })

/-- The tables, and what SELECT does (R36, R37). -/
def Obligations.TableSelection : Prop :=
  Claims.TablesById ∧ Claims.SelectOutcome

/-- A WRITE with no cursor, on a read-only table, or with a complete entry that would land on a font or tile in use is
refused and writes nothing; an empty WRITE that passes these tests changes nothing (R38, R39). -/
def Claims.WriteTests : Prop :=
  ∀ (payload : List Byte) (s : State),
    (s.setup.cursor = none → exec (.write payload) s = .next (refuse .notOpen .write s)) ∧
    ∀ (table : TableId) (index : Nat), s.setup.cursor = some ⟨table, index⟩ →
      (table.readOnly = true → exec (.write payload) s = .next (refuse .stagedOnly .write s)) ∧
      (table.readOnly = false →
        (∃ k < payload.length / table.entryBytes, index + k < table.entries ∧ entryInUse s table (index + k) = true) →
        exec (.write payload) s = .next (refuse .inUse .write s)) ∧
      (table.readOnly = false → payload = [] → exec (.write payload) s = .next s)

/-- What a WRITE of one complete entry stores, table by table: the entry as its rule checks and clamps it, the cursor
one further, the side effects of GROUPS and TILES, and nothing else (R40, R43 to R51, R105, R154). -/
def Obligations.WriteStoresEntry : Prop :=
  ∀ (e : List Byte) (i : Nat) (s : State),
    (∀ c, s.setup.cursor = some ⟨.canvas, 0⟩ → e.length = 16 → decodeCanvas e = some c →
      exec (.write e) s = .next { s with setup := { s.setup with canvas := c, cursor := some ⟨.canvas, 1⟩ } }) ∧
    (∀ h, s.setup.cursor = some ⟨.heads, i⟩ → i < 4 → e.length = 16 → decodeHead e = some h →
      exec (.write e) s = .next { s with setup := { s.setup with
        heads := s.setup.heads.write i h, cursor := some ⟨.heads, i + 1⟩ } }) ∧
    (∀ x, s.setup.cursor = some ⟨.slots, i⟩ → i < 96 → e.length = 32 → decodeSlot e = some x →
      exec (.write e) s = .next { s with setup := { s.setup with
        slots := s.setup.slots.write i x, cursor := some ⟨.slots, i + 1⟩ } }) ∧
    (∀ f, s.setup.cursor = some ⟨.formats, i⟩ → i < 8 → e.length = 8 → decodeFormat e = some f →
      exec (.write e) s = .next { s with setup := { s.setup with
        formats := s.setup.formats.write i f, cursor := some ⟨.formats, i + 1⟩ } }) ∧
    (∀ f < 4, s.setup.cursor = some ⟨.fontMetrics, f * 26⟩ → e.length = 4 → fontInUse s f = false →
      exec (.write e) s = .next { s with setup := { s.setup with
        fontHeights := s.setup.fontHeights.write f (BitVec.ofNat 8 (max 8 (min 96 (byteAt e 0).toNat)))
        cursor := some ⟨.fontMetrics, f * 26 + 1⟩ } }) ∧
    (∀ f < 4, ∀ c < 25, ∀ m, s.setup.cursor = some ⟨.fontMetrics, f * 26 + 1 + c⟩ → e.length = 4 →
      fontInUse s f = false → decodeMetric e = some m →
      exec (.write e) s = .next { s with setup := { s.setup with
        metrics := s.setup.metrics.write (f * 25 + c) m, cursor := some ⟨.fontMetrics, f * 26 + 2 + c⟩ } }) ∧
    (∀ (f : Fin 4) (v : Byte), s.setup.cursor = some ⟨.glyphs f, i⟩ → i < 76800 → e = [v] → fontInUse s f.val = false →
      exec (.write e) s = .next { s with setup := { s.setup with
        glyphs := s.setup.glyphs.write (f.val * 76800 + i) v, cursor := some ⟨.glyphs f, i + 1⟩ } }) ∧
    (∀ x, s.setup.cursor = some ⟨.schedule, i⟩ → i < 8 → e.length = 4 → decodeSchedule e = some x →
      exec (.write e) s = .next { s with setup := { s.setup with
        schedule := s.setup.schedule.write i x, cursor := some ⟨.schedule, i + 1⟩ } }) ∧
    (∀ g, s.setup.cursor = some ⟨.groups, i⟩ → i < 16 → e.length = 20 → decodeGroup e = some g →
      exec (.write e) s = .next { s with
        setup := { s.setup with groups := s.setup.groups.write i g, cursor := some ⟨.groups, i + 1⟩ }
        timeBase := { s.timeBase with
          runs := s.timeBase.runs.write i ⟨0, 0, false, true, (s.timeBase.runs.read i).badLeader⟩ } }) ∧
    ∀ t, s.setup.cursor = some ⟨.tiles, i⟩ → i < 256 → e.length = 12 → decodeTile e = some t →
      tileInUse s (BitVec.ofNat 8 i) = false →
      exec (.write e) s = .next { s with
        setup := { s.setup with tiles := s.setup.tiles.write i t, cursor := some ⟨.tiles, i + 1⟩ }
        pictures := { s.pictures with directory := s.pictures.directory.write i ⟨.empty, 0⟩ } }

/-- A WRITE of several entries is the WRITE of its first entry followed by the WRITE of the rest; an entry at the table
end, an entry with a bad field and a trailing part of an entry are refused and leave the cursor where it then stands
(R40). -/
def Claims.WriteGoesEntryByEntry : Prop :=
  ∀ (e rest : List Byte) (table : TableId) (index : Nat) (s : State),
    s.setup.cursor = some ⟨table, index⟩ → table.readOnly = false → e.length = table.entryBytes →
    (∀ k ≤ rest.length / table.entryBytes, index + k < table.entries → entryInUse s table (index + k) = false) →
    (table.entries ≤ index → exec (.write (e ++ rest)) s = .next (refuse .tableEnd .write s)) ∧
    (index < table.entries → putEntry table index e s.setup = none →
      exec (.write (e ++ rest)) s = .next (refuse .badField .write s)) ∧
    (index < table.entries → putEntry table index e s.setup ≠ none →
      ∃ t, exec (.write e) s = .next t ∧ exec (.write (e ++ rest)) s = exec (.write rest) t) ∧
    (rest ≠ [] → rest.length < table.entryBytes →
      exec (.write rest) s = .next (refuse .badLength .write s))

/-- When a tile is shown, when a font is in use by the slots' fonts as latched, when a tile is in use for a TILES write,
and which font or tile an entry of a table belongs to; before the first boundary no font is in use (R38, R39). -/
def Claims.InUseRule : Prop :=
  (∀ (s : State) (t : Byte), tileShown s t = true ↔
    ∃ slot < 96, (s.engine.frame.read slot).visible = true ∧ (s.engine.frame.read slot).tile = some t) ∧
  (∀ (s : State) (f : Nat), fontInUse s f = true ↔ ∃ l, s.compositor.latch = some l ∧
    ∃ slot < 96, (s.engine.frame.read slot).visible = true ∧ (l.slots.read slot).font.val = f) ∧
  (∀ (s : State) (t : Byte), tileInUse s t = true ↔
    tileShown s t = true ∨ (s.pictures.directory.read t.toNat).state = .loading) ∧
  ∀ (s : State) (index : Nat),
    entryInUse s .fontMetrics index = fontInUse s (index / 26) ∧
    (∀ f : Fin 4, entryInUse s (.glyphs f) index = fontInUse s f.val) ∧
    (∀ t : Byte, entryInUse s .tiles t.toNat = tileInUse s t) ∧
    ∀ table, table ≠ .fontMetrics → (∀ f, table ≠ .glyphs f) → table ≠ .tiles → entryInUse s table index = false

/-- When a WRITE is refused whole, what is in use, and how a WRITE goes entry by entry (R38, R39, R40). -/
def Obligations.WriteOutcome : Prop :=
  Claims.WriteTests ∧ Claims.InUseRule ∧ Claims.WriteGoesEntryByEntry

/-- Which entries a WRITE refuses with BAD_FIELD, table by table (R42 to R51). -/
def Claims.BadFieldsAreRefused : Prop :=
  ∀ e : List Byte,
    (decodeCanvas e = none ↔ field e 0 2 < 64 ∨ 8192 < field e 0 2 ∨ field e 2 2 < 64 ∨ 2304 < field e 2 2) ∧
    (decodeHead e = none ↔ 1 < (byteAt e 0).toNat) ∧
    (decodeSlot e = none ↔ 3 < (byteAt e 20).toNat % 16 ∨ 7 < (byteAt e 20).toNat / 16 ∨ 2 < (byteAt e 21).toNat ∨
      3 < (byteAt e 22).toNat) ∧
    (decodeFormat e = none ↔ (byteAt e 0).toNat ∉ [0, 2] ∨ 2 < (byteAt e 1).toNat ∨ 1 < (byteAt e 2).toNat ∨
      5000 < field e 3 2 ∨ 3 < (byteAt e 5).toNat ∨ (byteAt e 6).toNat ∉ [1, 5, 10, 50, 100]) ∧
    (decodeMetric e = none ↔ 1 < (byteAt e 0).toNat) ∧
    (decodeSchedule e = none ↔ 1 < (byteAt e 0).toNat ∨ 3 < (byteAt e 1).toNat ∨ 1439 < field e 2 2) ∧
    (decodeGroup e = none ↔ (∃ k < 8, 1023 < field e (2 * k) 2) ∨ 8 < (byteAt e 16).toNat % 16 ∨
      (15 < (byteAt e 17).toNat ∧ (byteAt e 17).toNat ≠ 255)) ∧
    (decodeTile e = none ↔ field e 0 4 % 256 ≠ 0 ∨ 268435456 ≤ field e 0 4 ∨ field e 4 2 = 0 ∨ 1024 < field e 4 2 ∨
      field e 6 2 = 0 ∨ 1024 < field e 6 2 ∨ 1 < (byteAt e 8).toNat)

/-- What is stored of a written entry that is not refused, field by field: as written or clamped; the load share to the
next listed value below, a member count and a dwell of 0 as 1 (R42 to R47, R49 to R51, R54, R55). -/
def Claims.EntriesAsStored : Prop :=
  ∀ e : List Byte,
    let colour := fun i : Nat => Rgb.mk (byteAt e i) (byteAt e (i + 1)) (byteAt e (i + 2))
    (∀ c, decodeCanvas e = some c → c.width.toNat = field e 0 2 ∧ c.height.toNat = field e 2 2 ∧ c.plate = colour 4 ∧
      c.loadShare ∈ legalShares ∧ c.loadShare.toNat ≤ (byteAt e 7).toNat ∧
      (∀ x ∈ legalShares, x.toNat ≤ (byteAt e 7).toNat → x.toNat ≤ c.loadShare.toNat) ∧
      c.nominalPeriod.toNat = max 8000 (min 50000 (field e 8 2))) ∧
    (∀ h, decodeHead e = some h → bit h.enabled = (byteAt e 0).toNat ∧ h.x.toNat = field e 2 2 ∧ h.y.toNat = field e 4 2 ∧
      h.w.toNat = max 1 (min 4096 (field e 6 2)) ∧ h.h.toNat = max 1 (min 2304 (field e 8 2)) ∧ h.blank = colour 10) ∧
    (∀ x, decodeSlot e = some x → x.x.toNat = field e 0 2 ∧ x.y.toNat = field e 2 2 ∧ x.w.toNat = field e 4 2 ∧
      x.h.toNat = field e 6 2 ∧ x.tx.toNat = field e 8 2 ∧ x.ty.toNat = field e 10 2 ∧ x.px.toNat = field e 12 2 ∧
      x.py.toNat = field e 14 2 ∧ x.pw.toNat = min 8191 (field e 16 2) ∧ x.ph.toNat = min 8191 (field e 18 2) ∧
      x.font.val = (byteAt e 20).toNat % 16 ∧ x.format.val = (byteAt e 20).toNat / 16 ∧
      x.alignment.number = (byteAt e 21).toNat ∧ x.treatment.number = (byteAt e 22).toNat ∧ x.dayparts = byteAt e 23 ∧
      x.priceColour = colour 24 ∧ x.fillColour = colour 27 ∧ x.fillAlpha = byteAt e 30 ∧ x.d = byteAt e 31) ∧
    (∀ f, decodeFormat e = some f → f.decimals.number = (byteAt e 0).toNat ∧ f.currency.number = (byteAt e 1).toNat ∧
      f.taxMode.number = (byteAt e 2).toNat ∧ f.rate.val = field e 3 2 ∧ f.rounding.number = (byteAt e 5).toNat ∧
      f.granularity.units = (byteAt e 6).toNat ∧ f.raised = (byteAt e 7).getLsbD 0 ∧
      f.dropZeroFraction = (byteAt e 7).getLsbD 1 ∧ f.zeroMark = (byteAt e 7).getLsbD 2) ∧
    ((decodeFontHeight e).toNat = max 8 (min 96 (byteAt e 0).toNat)) ∧
    (∀ m, decodeMetric e = some m → bit m.present = (byteAt e 0).toNat ∧
      m.width.toNat = max 1 (min 64 (byteAt e 1).toNat) ∧ m.advance.toNat = max 1 (min 80 (byteAt e 2).toNat)) ∧
    (∀ x, decodeSchedule e = some x → bit x.enabled = (byteAt e 0).toNat ∧ x.book.val = (byteAt e 1).toNat ∧
      x.start.val = field e 2 2) ∧
    (∀ g, decodeGroup e = some g → (∀ k < 8, (g.member k).val = field e (2 * k) 2) ∧
      g.count = max 1 ((byteAt e 16).toNat % 16) ∧ (g.mode = .oneShot ↔ (byteAt e 16).getLsbD 4 = true) ∧
      g.skipUnavailable = (byteAt e 16).getLsbD 5 ∧ (g.leader = none ↔ (byteAt e 17).toNat = 255) ∧
      (∀ h, g.leader = some h → h.val = (byteAt e 17).toNat) ∧ g.dwell.toNat = max 1 (field e 18 2)) ∧
    ∀ t, decodeTile e = some t → t.base.toNat = field e 0 4 ∧ t.width.toNat = field e 4 2 ∧ t.height.toNat = field e 6 2 ∧
      (t.keyMode = .alpha ↔ (byteAt e 8).toNat = 1)

/-- What a READ returns of a stored entry, a WRITE takes back as the same entry, in every setup table, and the entry has
its table's size (R36, R54, R55). -/
def Claims.EntriesRoundTrip : Prop :=
  (∀ c : CanvasEntry, within 64 8192 c.width.toNat → within 64 2304 c.height.toNat → c.loadShare ∈ legalShares →
    within 8000 50000 c.nominalPeriod.toNat →
    decodeCanvas (encodeCanvas c) = some c ∧ (encodeCanvas c).length = TableId.canvas.entryBytes) ∧
  (∀ h : HeadEntry, within 1 4096 h.w.toNat → within 1 2304 h.h.toNat →
    decodeHead (encodeHead h) = some h ∧ (encodeHead h).length = TableId.heads.entryBytes) ∧
  (∀ x : SlotEntry, x.pw.toNat ≤ 8191 → x.ph.toNat ≤ 8191 →
    decodeSlot (encodeSlot x) = some x ∧ (encodeSlot x).length = TableId.slots.entryBytes) ∧
  (∀ f : FormatEntry, decodeFormat (encodeFormat f) = some f ∧ (encodeFormat f).length = TableId.formats.entryBytes) ∧
  (∀ h : Byte, within 8 96 h.toNat →
    decodeFontHeight (encodeFontHeight h) = h ∧ (encodeFontHeight h).length = TableId.fontMetrics.entryBytes) ∧
  (∀ m : Metric, within 1 64 m.width.toNat → within 1 80 m.advance.toNat →
    decodeMetric (encodeMetric m) = some m ∧ (encodeMetric m).length = TableId.fontMetrics.entryBytes) ∧
  (∀ x : ScheduleEntry,
    decodeSchedule (encodeSchedule x) = some x ∧ (encodeSchedule x).length = TableId.schedule.entryBytes) ∧
  (∀ g : GroupEntry, within 1 8 g.count → 1 ≤ g.dwell.toNat →
    decodeGroup (encodeGroup g) = some g ∧ (encodeGroup g).length = TableId.groups.entryBytes) ∧
  ∀ t : TileEntry, t.base.toNat % 256 = 0 → t.base.toNat < memoryBytes → within 1 1024 t.width.toNat →
    within 1 1024 t.height.toNat →
    decodeTile (encodeTile t) = some t ∧ (encodeTile t).length = TableId.tiles.entryBytes

/-- Which written entries are refused, what is stored of the others, and that an entry read is taken back as it was (R42 to R51, R54, R55). -/
def Obligations.TableEntries : Prop :=
  Claims.BadFieldsAreRefused ∧ Claims.EntriesAsStored ∧ Claims.EntriesRoundTrip

/-! ## The Change Stager -/

/-- A change record as R75 to R78 lay it out is read back as the change it describes, and so is a status pair (R87);
which records are bad. -/
def Claims.ChangeRecordsRoundTrip : Prop :=
  (∀ c : Change, parseChange (encodeChange c) = some c ∧ (encodeChange c).length = 16) ∧
  (∀ p : Fin 1024 × Status, parsePair (encodePair p) = some p ∧ (encodePair p).length = 4) ∧
  (∀ r : List Byte, (byteAt r 0).toNat = 1 → (parseChange r = none ↔
    3 < (byteAt r 1).toNat ∨ 1023 < field r 2 2 ∨ (99999 < field r 4 3 ∧ field r 4 3 ≠ 0xFFFFFF))) ∧
  (∀ r : List Byte, (byteAt r 0).toNat = 2 → (parseChange r = none ↔
    1023 < field r 2 2 ∨ 2 < (byteAt r 4).toNat ∨ 3 < (byteAt r 5).toNat ∨
    ((byteAt r 5).toNat = 1 ∧ 1000 < field r 6 3) ∨ (2 ≤ (byteAt r 5).toNat ∧ 99999 < field r 6 3))) ∧
  (∀ r : List Byte, (byteAt r 0).toNat = 3 → (parseChange r = none ↔
    95 < field r 2 2 ∨ 1 < (byteAt r 4).toNat ∨ 2 < (byteAt r 5).toNat ∨
    ((byteAt r 5).toNat = 1 ∧ 1023 < field r 6 2) ∨ ((byteAt r 5).toNat = 2 ∧ 15 < field r 6 2) ∨
    2 < (byteAt r 8).toNat)) ∧
  ∀ r : List Byte, (byteAt r 0).toNat ∉ [1, 2, 3] → parseChange r = none

/-- STAGE appends its records to the open batch in payload order, or is refused: for its length, for a bad record, or
for want of room in the pool of 128, in this order; a refusal stages nothing (R74, R79). -/
def Claims.StageOutcome : Prop :=
  (∀ (payload : List Byte) (s : State), payload.length = 0 ∨ payload.length % 16 ≠ 0 →
    exec (.stage payload) s = .next (refuse .badLength .stage s)) ∧
  (∀ (before r after : List Byte) (s : State), before.length % 16 = 0 → r.length = 16 → after.length % 16 = 0 →
    parseChange r = none → exec (.stage (before ++ r ++ after)) s = .next (refuse .badField .stage s)) ∧
  ∀ (parts : List (List Byte)) (records : List Change) (s : State), parts ≠ [] → (∀ r ∈ parts, r.length = 16) →
    parts.map parseChange = records.map some →
    exec (.stage parts.flatten) s =
      .next (if 128 < s.stager.openBatch.length + sealedRecords s.stager.sealed + records.length then
        refuse .poolFull .stage s
      else { s with stager := { s.stager with openBatch := s.stager.openBatch ++ records } })

/-- SEAL turns the open batch into a sealed batch with its tag at the tail of the queue, or is refused: for its length,
its tag, an empty open batch, or a queue of four, in this order; a refusal changes nothing (R81, R82). -/
def Claims.SealOutcome : Prop :=
  ∀ (payload : List Byte) (s : State),
    (payload.length ≠ 4 → exec (.sealBatch payload) s = .next (refuse .badLength .sealBatch s)) ∧
    (payload.length = 4 → 86400 ≤ field payload 0 4 → field payload 0 4 ≠ 0xFFFFFFFF →
      exec (.sealBatch payload) s = .next (refuse .badField .sealBatch s)) ∧
    (payload.length = 4 → field payload 0 4 < 86400 ∨ field payload 0 4 = 0xFFFFFFFF →
      exec (.sealBatch payload) s =
        .next (if s.stager.openBatch = [] then refuse .emptyBatch .sealBatch s
        else if 4 ≤ s.stager.sealed.length then refuse .queueFull .sealBatch s
        else { s with stager := { s.stager with
          openBatch := []
          sealed := s.stager.sealed ++ [⟨s.stager.openBatch,
            if field payload 0 4 = 0xFFFFFFFF then none else some (field payload 0 4)⟩] } }))

/-- DISCARD_OPEN empties the open batch (R84), DROP_SEALED the sealed-batch queue (R85), HOLD sets the hold flag and
RELEASE clears it (R86); each changes nothing else, and each refuses a payload. -/
def Claims.EmptyPayloadPackets : Prop :=
  (∀ s : State,
    exec (.discardOpen []) s = .next { s with stager := { s.stager with openBatch := [] } } ∧
    exec (.dropSealed []) s = .next { s with stager := { s.stager with sealed := [] } } ∧
    exec (.hold []) s = .next { s with stager := { s.stager with hold := true } } ∧
    exec (.release []) s = .next { s with stager := { s.stager with hold := false } }) ∧
  ∀ (payload : List Byte) (s : State), payload ≠ [] →
    exec (.discardOpen payload) s = .next (refuse .badLength .discardOpen s) ∧
    exec (.dropSealed payload) s = .next (refuse .badLength .dropSealed s) ∧
    exec (.hold payload) s = .next (refuse .badLength .hold s) ∧
    exec (.release payload) s = .next (refuse .badLength .release s)

/-- What SEAL, DISCARD_OPEN, DROP_SEALED, HOLD and RELEASE do, and when they are refused (R81, R82, R84 to R86). -/
def Obligations.SealAndQueue : Prop :=
  Claims.SealOutcome ∧ Claims.EmptyPayloadPackets

/-- STATUS_NOW appends its 1 to 16 pairs to the immediate-status list, or is refused: for its length, for a bad pair, or
for want of room in the list of 32, in this order; a refusal appends nothing (R87). -/
def Claims.StatusNowOutcome : Prop :=
  (∀ (payload : List Byte) (s : State), payload.length = 0 ∨ payload.length % 4 ≠ 0 ∨ 64 < payload.length →
    exec (.statusNow payload) s = .next (refuse .badLength .statusNow s)) ∧
  (∀ (before r after : List Byte) (s : State), before.length % 4 = 0 → r.length = 4 → after.length % 4 = 0 →
    (before ++ r ++ after).length ≤ 64 → (1023 < field r 0 2 ∨ 2 < (byteAt r 2).toNat) →
    exec (.statusNow (before ++ r ++ after)) s = .next (refuse .badField .statusNow s)) ∧
  ∀ (parts : List (List Byte)) (pairs : List (Fin 1024 × Status)) (s : State), parts ≠ [] → parts.length ≤ 16 →
    (∀ r ∈ parts, r.length = 4) → parts.map parsePair = pairs.map some →
    exec (.statusNow parts.flatten) s =
      .next (if 32 < s.stager.immediate.length + pairs.length then refuse .queueFull .statusNow s
      else { s with stager := { s.stager with immediate := s.stager.immediate ++ pairs } })

/-- What STAGE and STATUS_NOW do, and when they are refused (R74, R79, R87). -/
def Obligations.StageAndStatusNow : Prop :=
  Claims.StageOutcome ∧ Claims.StatusNowOutcome

/-- When a sealed batch is due: always with tag NOW; with a tag, when the clock is SET and the boundary's second lies
less than 43200 seconds at or after the tag, modulo a day (R90). -/
def Claims.DueRule : Prop :=
  (∀ (b : Batch) (reading : Option Nat), b.tag = none → b.due reading = true) ∧
  (∀ (b : Batch) (tag : Nat), b.tag = some tag → b.due none = false) ∧
  (∀ (b : Batch) (tag second : Nat), b.tag = some tag → tag < 86400 → second < 86400 →
    (b.due (some second) = true ↔ ((second : Int) - (tag : Int)) % 86400 < 43200)) ∧
  [(36000, 39600), (39600, 39600), (82799, 39600), (82800, 39600), (0, 86100), (86100, 300), (400, 50000)].map
    (fun p => Batch.due ⟨[], some p.2⟩ (some p.1)) = [false, true, true, false, true, false, true]

/-- What a good change record says, field by field; bytes and bits that its kind does not use are not examined, and a
modifier of kind NONE holds no value (R75 to R78). So for a status pair (R87). -/
def Claims.ChangeRecordFields : Prop :=
  (∀ (r : List Byte) (c : Change), (byteAt r 0).toNat = 1 → parseChange r = some c →
    ∃ book item entry, c = .price book item entry ∧ book.val = (byteAt r 1).toNat ∧ item.val = field r 2 2 ∧
      (entry = none ↔ field r 4 3 = 0xFFFFFF) ∧ ∀ p, entry = some p → p.val = field r 4 3) ∧
  (∀ (r : List Byte) (c : Change), (byteAt r 0).toNat = 2 → parseChange r = some c →
    ∃ item x, c = .item item x ∧ item.val = field r 2 2 ∧ x.status.number = (byteAt r 4).toNat ∧
      x.modifier.kindNumber = (byteAt r 5).toNat ∧ (x.modifier ≠ .none → x.modifier.value = field r 6 3) ∧
      x.tile = (if (byteAt r 11).getLsbD 0 then some (byteAt r 9) else none) ∧
      x.soldOutTile = (if (byteAt r 11).getLsbD 1 then some (byteAt r 10) else none)) ∧
  (∀ (r : List Byte) (c : Change), (byteAt r 0).toNat = 3 → parseChange r = some c →
    ∃ slot b, c = .bind slot b ∧ slot.val = field r 2 2 ∧ bit b.active = (byteAt r 4).toNat ∧
      b.source.kindNumber = (byteAt r 5).toNat ∧ (b.source ≠ .none → b.source.number = field r 6 2) ∧
      b.tileChoice.kindNumber = (byteAt r 8).toNat ∧ ∀ t, b.tileChoice = .fixed t → t = byteAt r 9) ∧
  ∀ (r : List Byte) (p : Fin 1024 × Status), parsePair r = some p →
    p.1.val = field r 0 2 ∧ p.2.number = (byteAt r 2).toNat

/-- The application at a frame boundary: with the hold flag clear the batches at the head of the queue that are due,
whole and in seal order, then the immediate pairs in order, hold or not; then the live book of the daypart in effect.
The batches applied leave the queue and the list is emptied (R64, R88, R92, R93, R94, R95). -/
def Claims.ApplicationAtBoundary : Prop :=
  ∀ s : State,
    let applied := if s.stager.hold then [] else s.stager.sealed.takeWhile (·.due s.timeBase.reading)
    let left := if s.stager.hold then s.stager.sealed else s.stager.sealed.dropWhile (·.due s.timeBase.reading)
    let afterBatches := (applied.flatMap Batch.records).foldl applyChange s.live
    let afterStatus := s.stager.immediate.foldl applyStatus afterBatches
    let t := stagerBoundary s
    t.stager = ⟨s.stager.openBatch, left, [], s.stager.hold⟩ ∧ t.live.items = afterStatus.items ∧
    t.live.books = afterBatches.books ∧ t.live.bindings = afterBatches.bindings ∧
    t.live.liveBook = (match s.timeBase.daypart with
      | none => 0
      | some k => (s.setup.schedule.read k.val).book) ∧
    t.timeBase = s.timeBase ∧ t.setup = s.setup ∧ t.engine = s.engine

/-- A change record sets exactly what it names: one entry of one book, one whole item record, one whole binding; a
status pair sets the status of its item (R76, R77, R78, R88). -/
def Claims.ChangesSetWhatTheyName : Prop :=
  (∀ (l : Live) (b d : Fin 4) (i j : Fin 1024) (p : Option Price),
    (applyChange l (.price b i p)).price d j.val = if d = b ∧ j = i then p else l.price d j.val) ∧
  (∀ (l : Live) (b : Fin 4) (i : Fin 1024) (p : Option Price),
    (applyChange l (.price b i p)).items = l.items ∧ (applyChange l (.price b i p)).bindings = l.bindings) ∧
  (∀ (l : Live) (i : Fin 1024) (j : Nat) (r : Item),
    (applyChange l (.item i r)).items.read j = (if j = i.val then r else l.items.read j) ∧
    (applyChange l (.item i r)).books = l.books ∧ (applyChange l (.item i r)).bindings = l.bindings) ∧
  (∀ (l : Live) (k : Fin 96) (j : Nat) (b : Binding),
    (applyChange l (.bind k b)).bindings.read j = (if j = k.val then b else l.bindings.read j) ∧
    (applyChange l (.bind k b)).items = l.items ∧ (applyChange l (.bind k b)).books = l.books) ∧
  ∀ (l : Live) (i : Fin 1024) (j : Nat) (status : Status),
    (applyStatus l (i, status)).items.read j =
      (if j = i.val then { l.items.read j with status := status } else l.items.read j) ∧
    (applyStatus l (i, status)).books = l.books ∧ (applyStatus l (i, status)).bindings = l.bindings

/-- How a change record is read, when it is bad, and what it sets (R75 to R78, R87, R88). -/
def Obligations.ChangeRecords : Prop :=
  Claims.ChangeRecordsRoundTrip ∧ Claims.ChangeRecordFields ∧ Claims.ChangesSetWhatTheyName

/-- The generation number moves by one, wrapping, at a boundary whose new live state differs from the ending frame's in
any item record, book entry, binding or the live book, and stays where nothing differs (R66, R95). -/
def Claims.GenerationCountsChanges : Prop :=
  ∀ s : State, Canonical s →
    let t := stagerBoundary s
    (((∀ i, t.live.items.read i = s.live.items.read i) ∧ (∀ k, t.live.books.read k = s.live.books.read k) ∧
        (∀ i, t.live.bindings.read i = s.live.bindings.read i) ∧ t.live.liveBook = s.live.liveBook) →
      t.live.generation = s.live.generation) ∧
    (¬ ((∀ i, t.live.items.read i = s.live.items.read i) ∧ (∀ k, t.live.books.read k = s.live.books.read k) ∧
        (∀ i, t.live.bindings.read i = s.live.bindings.read i) ∧ t.live.liveBook = s.live.liveBook) →
      t.live.generation = s.live.generation + 1)

/-- When a batch is due, what a boundary applies, and when the generation number moves (R66, R90, R92 to R95). -/
def Obligations.BoundaryAppliesChanges : Prop :=
  Claims.DueRule ∧ Claims.ApplicationAtBoundary ∧ Claims.GenerationCountsChanges

/-! ## The Time Base -/

/-- Outside reset SET_TIME sets the clock to the values it carries and makes it SET; a payload length other than 8, and a
second or microsecond out of range, are refused and leave the clock (R99). One that passes the checks in reset leaves the
clock as it is, UNSET in reset (R98); that a packet row sent in reset is carried out is the model's choice (log entry
6). -/
def Claims.SetTimeOutcome : Prop :=
  ∀ (payload : List Byte) (s : State),
    (payload.length ≠ 8 → exec (.setTime payload) s = .next (refuse .badLength .setTime s)) ∧
    (payload.length = 8 → 86399 < field payload 0 4 ∨ 999999 < field payload 4 4 →
      exec (.setTime payload) s = .next (refuse .badField .setTime s)) ∧
    (payload.length = 8 → field payload 0 4 ≤ 86399 → field payload 4 4 ≤ 999999 →
      (s.timing.inReset = false → exec (.setTime payload) s = .next { s with timeBase := { s.timeBase with
        clockSet := true, seconds := field payload 0 4, micros := field payload 4 4 } }) ∧
      (s.timing.inReset = true → exec (.setTime payload) s = .next s))

/-- CLOCK_ADVANCE moves a SET clock on by as many microseconds, around midnight, leaves an UNSET one, and any clock in
reset, at rest, and changes nothing else but the count of the oscillator; advancing twice is advancing by the sum (R98). The count of the
oscillator is the model's own field (log entry 4). -/
def Claims.ClockAdvances : Prop :=
  (∀ (n : Nat) (s : State), s.timeBase.clockSet = false ∨ s.timing.inReset = true →
    exec (.clockAdvance n) s = .next { s with now := s.now + n }) ∧
  (∀ (n : Nat) (s : State), s.timeBase.clockSet = true → s.timing.inReset = false → ∃ seconds micros,
    exec (.clockAdvance n) s = .next { s with
      now := s.now + n, timeBase := { s.timeBase with seconds := seconds, micros := micros } } ∧
    micros < 1000000 ∧ seconds < 86400 ∧
    seconds * 1000000 + micros = (s.timeBase.seconds * 1000000 + s.timeBase.micros + n) % 86400000000) ∧
  ∀ (m n : Nat) (s t : State), s.timeBase.micros < 1000000 → exec (.clockAdvance m) s = .next t →
    exec (.clockAdvance n) t = exec (.clockAdvance (m + n)) s

/-- What SET_TIME and CLOCK_ADVANCE do to the clock, outside reset and in reset, where it does not run (R98, R99). That
SET_TIME sent in reset is checked and refused like any other is the model's choice (log entry 6), as is the oscillator
count (log entry 4). -/
def Obligations.ClockOutcome : Prop :=
  Claims.SetTimeOutcome ∧ Claims.ClockAdvances

/-- The daypart in effect: none without a reading or an enabled entry; else the enabled entry with the largest start at
or below the minute, or, with none, with the largest start of all, the lower entry number among equals (R102, R103). -/
def Obligations.DaypartChoice : Prop :=
  ∀ schedule : Table ScheduleEntry.initial,
    let enabled := fun k : Fin 8 => (schedule.read k.val).enabled = true
    let start := fun k : Fin 8 => (schedule.read k.val).start.val
    daypartAt schedule none = none ∧
    ∀ second : Nat,
      ((∀ k, ¬ enabled k) → daypartAt schedule (some second) = none) ∧
      ((∃ k, enabled k) → ∃ k, daypartAt schedule (some second) = some k ∧ enabled k ∧
        ((∃ j, enabled j ∧ start j ≤ second / 60) →
          start k ≤ second / 60 ∧
          ∀ j, enabled j → start j ≤ second / 60 → start j < start k ∨ (start j = start k ∧ k ≤ j)) ∧
        ((∀ j, enabled j → second / 60 < start j) →
          ∀ j, enabled j → start j < start k ∨ (start j = start k ∧ k ≤ j)))

/-- GROUP_RESTART of a group resets its record and those of its followers, of 255 all sixteen: index 0, count 0, not
stopped, restart pending, BAD_LEADER left; every other record and everything else stays. A payload length other than 1
and a number from 16 to 254 are refused (R106, R113). -/
def Obligations.GroupRestartOutcome : Prop :=
  (∀ (payload : List Byte) (s : State), payload.length ≠ 1 →
    exec (.groupRestart payload) s = .next (refuse .badLength .groupRestart s)) ∧
  (∀ (v : Byte) (s : State), 16 ≤ v.toNat → v ≠ 255 →
    exec (.groupRestart [v]) s = .next (refuse .badField .groupRestart s)) ∧
  ∀ (v : Byte) (s : State), v.toNat < 16 ∨ v = 255 → ∃ runs,
    exec (.groupRestart [v]) s = .next { s with timeBase := { s.timeBase with runs := runs } } ∧
    ∀ f < 16, runs.read f =
      if v = 255 ∨ f = v.toNat ∨
          ((∃ h : Fin 16, (s.setup.groups.read f).leader = some h ∧ h.val = v.toNat) ∧ f ≠ v.toNat ∧
            (s.setup.groups.read v.toNat).leader = none) then
        ⟨0, 0, false, true, (s.timeBase.runs.read f).badLeader⟩
      else s.timeBase.runs.read f

/-- A step of a group: to the next member, around in REPEAT, stopping in ONE_SHOT on the last; with skip-unavailable on,
to the first other position, in list order around, whose item was AVAILABLE in the ending frame (R108, R109). -/
def Claims.StepRule : Prop :=
  ∀ (items : Table Item.initial) (e : GroupEntry) (r : GroupRun), r.index < e.count →
    (e.mode = .oneShot → r.index + 1 = e.count → stepRun items e r = { r with stopped := true }) ∧
    (e.skipUnavailable = false → r.index + 1 < e.count → stepRun items e r = { r with index := r.index + 1 }) ∧
    (e.skipUnavailable = false → e.mode = .repeating → r.index + 1 = e.count →
      stepRun items e r = { r with index := 0 }) ∧
    (e.skipUnavailable = true → e.mode = .repeating ∨ r.index + 1 < e.count →
      let reach := if e.mode = .repeating then e.count else e.count - r.index
      let available := fun d => (items.read (e.member ((r.index + d) % e.count)).val).status = .available
      (∀ d, 1 ≤ d → d < reach → available d → (∀ c, 1 ≤ c → c < d → ¬ available c) →
        stepRun items e r = { r with index := (r.index + d) % e.count }) ∧
      ((∀ d, 1 ≤ d → d < reach → ¬ available d) → stepRun items e r = r))

/-- The groups at a frame boundary: a group whose restart is pending, or which is stopped, neither counts nor steps; an
independent group counts, and steps at its dwell; a follower steps when its leader does; restart pending becomes no, and
BAD_LEADER is yes exactly where the leader field names the group itself or a group with a leader (R106, R107, R110,
R111). -/
def Obligations.BoundaryMovesGroups : Prop :=
  ∀ (s : State) (g : Nat), g < 16 →
    let e := s.setup.groups.read g
    let r := s.timeBase.runs.read g
    let bad := match e.leader with
      | none => false
      | some h => decide (h.val = g) || (s.setup.groups.read h.val).leader.isSome
    let after := fun x : GroupRun => { x with pending := false, badLeader := bad }
    let t := (timeBaseBoundary s).timeBase.runs.read g
    (r.pending = true ∨ r.stopped = true → t = after r) ∧
    (r.pending = false → r.stopped = false → (e.leader = none ∨ bad = true) →
      t = after (if r.count + 1 = e.dwell.toNat then { stepRun s.live.items e r with count := 0 }
        else { r with count := r.count + 1 })) ∧
    (∀ h : Fin 16, r.pending = false → r.stopped = false → e.leader = some h → bad = false →
      t = after (if (s.timeBase.runs.read h.val).pending = false ∧ (s.timeBase.runs.read h.val).stopped = false ∧
          (s.timeBase.runs.read h.val).count + 1 = (s.setup.groups.read h.val).dwell.toNat then
        stepRun s.live.items e r else r))

/-- GROUP_STEP of an independent group that is neither pending nor stopped and whose count stands at its dwell: the
group steps, its count returns to 0, its followers that may step do so with it, and nothing else changes; without that
cause it changes nothing (R107, R110, log entry 9). That the row acts on a count that stands at its dwell, and that
the boundary has then acted already, is the model's choice. -/
def Claims.GroupStepOutcome : Prop :=
  ∀ (g : Fin 16) (s : State),
    let due := leaderOf s.setup.groups g.val = none ∧ (s.timeBase.runs.read g.val).pending = false ∧
      (s.timeBase.runs.read g.val).stopped = false ∧
      (s.setup.groups.read g.val).dwell.toNat ≤ (s.timeBase.runs.read g.val).count
    (¬ due → exec (.groupStep g) s = .next s) ∧
    (due → ∃ runs, exec (.groupStep g) s = .next { s with timeBase := { s.timeBase with runs := runs } } ∧
      runs.read g.val =
        { stepRun s.live.items (s.setup.groups.read g.val) (s.timeBase.runs.read g.val) with count := 0 } ∧
      ∀ f < 16, f ≠ g.val → runs.read f =
        if leaderOf s.setup.groups f = some g.val ∧ (s.timeBase.runs.read f).pending = false ∧
            (s.timeBase.runs.read f).stopped = false then
          stepRun s.live.items (s.setup.groups.read f) (s.timeBase.runs.read f)
        else s.timeBase.runs.read f)

/-- What a step of a group is, and what GROUP_STEP does (R107 to R110). When GROUP_STEP acts as a row of its own is
the model's choice (log entry 9). -/
def Obligations.GroupStepping : Prop :=
  Claims.StepRule ∧ Claims.GroupStepOutcome

/-! ## The Price Engine -/

/-- The records as a boundary settles them: visibility by the four conditions, then shown item, shown tile and
treatment applied; an invisible record holds none of them; every record carries the new generation. Published records
stay (R67 to R71, R119, R121). That the computed fields of a record that waits for its completion hold 0 and no run is
the model's choice (log entry 14). -/
def Obligations.BoundarySettlesRecords : Prop :=
  ∀ (source : TimingSource) (s : State) (slot : Nat), slot < 96 →
    let t := frameBoundary source s
    let b := t.live.bindings.read slot
    let e := t.setup.slots.read slot
    let item : Option (Fin 1024) := match b.source with
      | .none => none
      | .item n => some n
      | .group g => some ((t.setup.groups.read g.val).member (t.timeBase.runs.read g.val).index)
    let visible := b.active = true ∧ e.w ≠ 0 ∧ e.h ≠ 0 ∧
      (∀ k, t.timeBase.daypart = some k → e.dayparts.getLsbD k.val = true) ∧
      ∀ n, item = some n → (t.live.items.read n.val).status ≠ .hidden
    let r := t.engine.frame.read slot
    (¬ visible → r = { RenderRecord.initial with generation := t.live.generation }) ∧
    (visible →
      r.visible = true ∧ r.item = item ∧ r.generation = t.live.generation ∧ r.display = 0 ∧ r.run = [] ∧
      (∀ x, b.tileChoice = .fixed x → r.tile = some x) ∧ (b.tileChoice = .noTile → r.tile = none) ∧
      (b.tileChoice = .itemTile → item = none → r.tile = none) ∧
      (∀ n, b.tileChoice = .itemTile → item = some n →
        r.tile = if (t.live.items.read n.val).status = .soldOut ∧ e.treatment = .altTile ∧
            (t.live.items.read n.val).soldOutTile.isSome then (t.live.items.read n.val).soldOutTile
          else (t.live.items.read n.val).tile) ∧
      (item = none → r.applied = .none) ∧
      ∀ n, item = some n →
        ((t.live.items.read n.val).status ≠ .soldOut → r.applied = .none) ∧
        ((t.live.items.read n.val).status = .soldOut →
          (e.treatment = .none → r.applied = .none) ∧ (e.treatment = .dim → r.applied = .dim e.d) ∧
          (e.treatment = .grey → r.applied = .grey) ∧
          (e.treatment = .altTile →
            r.applied = if b.tileChoice = .itemTile ∧ (t.live.items.read n.val).soldOutTile.isSome then .altTile
              else .none))) ∧
    t.engine.computing = true ∧ t.engine.published = s.engine.published

/-- Stages 0 to 4: a SOLD_OUT item gives the sold-out mark, NO_PRICE the dash, both with D 0; any other price gives D
as the rounded value or 99999, with SATURATED set exactly where it is above 99999 (R122 to R126). -/
def Claims.StagesOfThePrice : Prop :=
  ∀ (f : FormatEntry) (i : Item) (price : Option Price),
    (i.status = .soldOut → computeRun f i price = (0, ⟨[23], { RenderFlags.clear with soldOut := true }⟩)) ∧
    (i.status ≠ .soldOut → price = none →
      computeRun f i price = (0, ⟨[22], { RenderFlags.clear with noPrice := true }⟩)) ∧
    ∀ p : Price, i.status ≠ .soldOut → price = some p →
      let q := match i.modifier with
        | .none => p.val
        | .percentOff m => p.val - p.val * m.val / 1000
        | .amountOff a => p.val - a.val
        | .fixed v => v.val
      let t := if f.taxMode = .inclusive then (q * (10000 + f.rate.val) + 5000) / 10000 else q
      let r := applyRounding f t
      q ≤ 99999 ∧ t ≤ 149999 ∧ r ≤ 150000 ∧
      (computeRun f i price).1 = min r 99999 ∧ (computeRun f i price).2.run = priceRun f (min r 99999) ∧
      (computeRun f i price).2.flags = { RenderFlags.clear with saturated := decide (99999 < r) }

/-- The display rounding: EXACT changes nothing; NEAREST gives the nearest multiple of the granularity, a value midway
going up; UP the next multiple at or above; CHARM the smallest value at or above that ends in 9 (R125). -/
def Claims.RoundingRule : Prop :=
  ∀ (f : FormatEntry) (t : Nat),
    let g := f.granularity.units
    let r := applyRounding f t
    (f.rounding = .exact → r = t) ∧
    (f.rounding = .nearest → g ∣ r ∧ 2 * r ≤ 2 * t + g ∧ 2 * t < 2 * r + g) ∧
    (f.rounding = .up → g ∣ r ∧ t ≤ r ∧ r < t + g) ∧
    (f.rounding = .charm → r % 10 = 9 ∧ t ≤ r ∧ r < t + 10)

/-- The stages of the price and what each rounding means (R122 to R126). -/
def Obligations.PriceArithmetic : Prop :=
  Claims.StagesOfThePrice ∧ Claims.RoundingRule

/-- The run of a display value up to 99999: at most 7 glyphs; the decimal digits of the integer part, most significant
first and without leading zeros, then the fraction by the format's style, and the currency sign in its place; for D 0
with the zero mark, that mark alone (R127, R128). -/
def Obligations.RunOfDisplayValue : Prop :=
  (∀ n < 100000, (digits n).foldl (fun a c => 10 * a + c) 0 = n ∧ (∀ c ∈ digits n, c < 10) ∧
    (digits n = [0] ∨ (digits n).head? ≠ some 0) ∧ digits n ≠ []) ∧
  ∀ (f : FormatEntry) (d : Nat), d ≤ 99999 →
    (priceRun f d).length ≤ 7 ∧ (d = 0 → f.zeroMark = true → priceRun f d = [24]) ∧
    (d ≠ 0 ∨ f.zeroMark = false →
      let fraction := if f.decimals = .zero ∨ (f.dropZeroFraction = true ∧ d % 100 = 0) then []
        else if f.raised = true then [10 + d / 10 % 10, 10 + d % 10] else [20, d / 10 % 10, d % 10]
      let sequence := (if f.decimals = .zero then digits d else digits (d / 100)) ++ fraction
      priceRun f d = match f.currency with
        | .none => sequence
        | .before => 21 :: sequence
        | .after => sequence ++ [21])

/-- The fit: a run that comes out not empty has only glyphs present in the font, is no wider than the box and in a font
no higher than it, and its offsets keep it in the box; a run that fits as it is comes out as it is; a run too wide
loses its currency sign, and one still too wide becomes the dash, or nothing, with OVERFLOW; a run with a glyph the font
lacks becomes the dash, or nothing, with GLYPH_MISSING. A run's width is the advances of its glyphs but the last, and the
last one's width (R129 to R134). -/
def Obligations.FitRule : Prop :=
  ∀ (v : FontView) (pw ph : Nat) (x : Fitting),
    let y := fitRun v pw ph x
    let dash := (v.metric 22).present = true
    (∀ c, v.metric c = v.metrics.read (v.font * 25 + c) ∧ v.width c = (v.metric c).width.toNat ∧
      v.advance c = (v.metric c).advance.toNat) ∧
    (v.runWidth [] = 0 ∧ ∀ run c, v.runWidth (run ++ [c]) = (run.map v.advance).sum + v.width c) ∧
    ((∀ c ∈ x.run, (v.metric c).present = true) → v.height ≤ ph → pw < v.runWidth x.run →
      pw < v.runWidth (x.run.filter (· ≠ currencyCode)) →
      y = ⟨if dash ∧ v.width 22 ≤ pw then [22] else [], { x.flags with
        currencyDropped := decide (currencyCode ∈ x.run) || x.flags.currencyDropped, overflow := true }⟩) ∧
    ((∃ c ∈ x.run, (v.metric c).present = false) →
      (¬ dash → y = ⟨[], { x.flags with glyphMissing := true }⟩) ∧
      (dash → ph < v.height → y = ⟨[], { x.flags with glyphMissing := true, noFit := true }⟩) ∧
      (dash → v.height ≤ ph → pw < v.width 22 → y = ⟨[], { x.flags with glyphMissing := true, overflow := true }⟩) ∧
      (dash → v.height ≤ ph → v.width 22 ≤ pw → y = ⟨[22], { x.flags with glyphMissing := true }⟩)) ∧
    (y.run ≠ [] → v.runWidth y.run ≤ pw ∧ v.height ≤ ph ∧ ∀ c ∈ y.run, (v.metric c).present = true) ∧
    ((∀ c ∈ x.run, (v.metric c).present = true) → v.height ≤ ph → v.runWidth x.run ≤ pw → y = x) ∧
    ((∀ c ∈ x.run, (v.metric c).present = true) → v.height ≤ ph → pw < v.runWidth x.run → currencyCode ∈ x.run →
      v.runWidth (x.run.filter (· ≠ currencyCode)) ≤ pw →
      y = ⟨x.run.filter (· ≠ currencyCode), { x.flags with currencyDropped := true }⟩) ∧
    (x.run ≠ [] → (∀ c ∈ x.run, (v.metric c).present = true) → ph < v.height →
      y = ⟨[], { x.flags with noFit := true }⟩) ∧
    ((∃ c ∈ x.run, (v.metric c).present = false) → y.flags.glyphMissing = true ∧ (y.run = [] ∨ y.run = [dashCode])) ∧
    ∀ (e : SlotEntry) (display : Nat) (r : RenderRecord), e.pw.toNat = pw → e.ph.toNat = ph →
      let z := enterRun v e display y r
      z.display = display ∧ z.run = y.run ∧ z.flags = y.flags ∧
      (y.run = [] → z.xOffset = 0 ∧ z.yOffset = 0) ∧
      (y.run ≠ [] → z.xOffset + v.runWidth y.run ≤ pw ∧ z.yOffset + v.height ≤ ph ∧
        z.yOffset = (ph - v.height) / 2 ∧ (e.alignment = .left → z.xOffset = 0) ∧
        (e.alignment = .right → z.xOffset + v.runWidth y.run = pw) ∧
        (e.alignment = .center → z.xOffset = (pw - v.runWidth y.run) / 2))

/-- COMPLETION_EVENT at the end of the frame's tenth line: every record that awaited it takes the run and display
value computed from the snapshot, the others stay, the published records become a copy of the frame's, and the
computation is IDLE; nothing else changes. Before that line, or with no computation going on, nothing happens (R119,
R120, R135). How the end of the tenth line is read from the oscillator and the line counts, and that the snapshot stays
afterwards, is the model's choice (log entries 4, 5, 23, 31). -/
def Obligations.CompletionOutcome : Prop :=
  (∀ s : State, s.engine.computing = false → exec .completionEvent s = .next s) ∧
  (∀ (s : State) (g : GeneratorFrame), s.timing.source ≠ .input → s.timing.generatorFrame = some g →
    (s.now - s.timing.frameStart) * (45 + g.activeLines) < 10 * g.period → exec .completionEvent s = .next s) ∧
  (∀ s : State, s.timing.source = .input → s.timing.blankingPassed + s.compositor.lines.length < 10 →
    exec .completionEvent s = .next s) ∧
  ∀ (s : State) (p : Snapshot), s.engine.computing = true → s.engine.snapshot = some p →
    ((s.timing.source = .input ∧ 10 ≤ s.timing.blankingPassed + s.compositor.lines.length) ∨
      (s.timing.source ≠ .input ∧ ∃ g, s.timing.generatorFrame = some g ∧
        10 * g.period ≤ (s.now - s.timing.frameStart) * (45 + g.activeLines))) →
    ∃ records, exec .completionEvent s = .next { s with engine := ⟨some p, false, records, records⟩ } ∧
      ∀ slot < 96,
        let r := s.engine.frame.read slot
        let e := p.slots.read slot
        (r.visible = false ∨ r.item = none → records.read slot = r) ∧
        ∀ n, r.visible = true → r.item = some n →
          let computed := computeRun (p.formats.read e.format.val) (p.live.items.read n.val)
            (p.live.price p.live.liveBook n.val)
          records.read slot = enterRun (p.fontOf slot) e computed.1
            (fitRun (p.fontOf slot) e.pw.toNat e.ph.toNat computed.2) r

/-! ## The Picture Loader -/

/-- LOAD_OPEN makes its channel OPEN on the tile with the byte count of its TILES entry and the tile LOADING, or is
refused, in this order: for its length, its channel or format, a busy channel or a tile the other channel targets, a
READY tile in use, a footprint past the end of picture memory; a refusal changes nothing (R144, R145). -/
def Obligations.LoadOpenOutcome : Prop :=
  ∀ (payload : List Byte) (s : State),
    (payload.length ≠ 4 → exec (.loadOpen payload) s = .next (refuse .badLength .loadOpen s)) ∧
    (payload.length = 4 → 1 < (byteAt payload 0).toNat ∨ 2 < (byteAt payload 2).toNat →
      exec (.loadOpen payload) s = .next (refuse .badField .loadOpen s)) ∧
    ∀ (c : LoadChannel) (f : SourceFormat) (tile unused : Byte),
      payload = [LoadChannel.number c, tile, SourceFormat.number f, unused] →
      let e := s.setup.tiles.read tile.toNat
      let pixels := e.width.toNat * e.height.toNat
      exec (.loadOpen payload) s =
        .next (if (s.pictures.channel c).state ≠ .idle ∨
            ((s.pictures.channel (otherChannel c)).state ≠ .idle ∧ (s.pictures.channel (otherChannel c)).tile = tile)
          then refuse .channelBusy .loadOpen s
        else if (s.pictures.directory.read tile.toNat).state = .ready ∧ tileShown s tile = true then
          refuse .inUse .loadOpen s
        else if 268435456 < e.base.toNat + pixels * 4 then refuse .badField .loadOpen s
        else { s with
          pictures := ({ s.pictures with
            directory := s.pictures.directory.write tile.toNat ⟨.loading, 0⟩ }).setChannel c
              ⟨.opened, tile, f, pixels * f.bytesPerPixel, 0, [], [], 0, none⟩ })

/-- LOAD_DATA refused: for its length, its channel, a channel not OPEN, an offset other than the received count, words
that need more room than the buffer has free, in this order; a refusal changes nothing (R146). -/
def Claims.LoadDataRefusals : Prop :=
  (∀ (payload : List Byte) (s : State), payload.length < 8 →
    exec (.loadData payload) s = .next (refuse .badLength .loadData s)) ∧
  (∀ (payload : List Byte) (s : State), 8 ≤ payload.length → 1 < (byteAt payload 0).toNat →
    exec (.loadData payload) s = .next (refuse .badField .loadData s)) ∧
  ∀ (c : LoadChannel) (unused : Byte × Byte × Byte) (offset : Nat) (data : List Byte) (s : State), offset < 2 ^ 32 →
    let x := s.pictures.channel c
    let taken := min data.length (x.byteCount - x.received)
    (x.state ≠ .opened → exec (.loadData (loadPayload c unused offset data)) s = .next (refuse .notOpen .loadData s)) ∧
    (x.state = .opened → offset ≠ x.received →
      exec (.loadData (loadPayload c unused offset data)) s = .next (refuse .outOfOrder .loadData s)) ∧
    (x.state = .opened → offset = x.received →
      4096 - 4 * x.buffer.length < 4 * ((x.holding.length + taken) / x.format.bytesPerPixel) →
      exec (.loadData (loadPayload c unused offset data)) s = .next (refuse .bufferFull .loadData s))

/-- LOAD_DATA taken, the load not yet ended by it or with words left to write: the bytes the load still lacks are taken
and the rest counted as surplus; every complete pixel is expanded to a word at the next address of the tile, the other
bytes wait; the stall count is 0; the channel is ENDING once all bytes have come; nothing else changes (R147, R148). -/
def Claims.LoadDataTakes : Prop :=
  ∀ (c : LoadChannel) (unused : Byte × Byte × Byte) (data : List Byte) (s : State),
    let x := s.pictures.channel c
    let b := x.format.bytesPerPixel
    let taken := data.take (x.byteCount - x.received)
    let loose := x.holding ++ taken
    let words := loose.length / b
    let base := (s.setup.tiles.read x.tile.toNat).base.toNat
    let received := x.received + taken.length
    x.state = .opened → x.received < 2 ^ 32 → 4 * words ≤ 4096 - 4 * x.buffer.length →
    x.holding.length = x.received % b → (received ≠ x.byteCount ∨ 0 < x.buffer.length + words) →
    exec (.loadData (loadPayload c unused x.received data)) s = .next { s with
      pictures := ({ s.pictures with
        surplus := bumpBy s.pictures.surplus (data.length - taken.length) }).setChannel c
          { x with
            received := received
            holding := loose.drop (words * b)
            buffer := x.buffer ++ (List.range words).map fun j =>
              BufferedWord.mk (base + 4 * (x.received / b + j)) (expandPixel x.format ((loose.drop (j * b)).take b))
            stall := 0
            state := if received = x.byteCount then .ending else .opened } }

/-- The three source formats: RGB888 and RGBA8888 as sent, RGB565 with its fields expanded to 0 to 255, alpha 255 where
none is sent (R148). -/
def Claims.PixelExpansion : Prop :=
  (∀ r g b : Byte, expandPixel .rgb888 [r, g, b] = ⟨r, g, b, 255⟩) ∧
  (∀ r g b a : Byte, expandPixel .rgba8888 [r, g, b, a] = ⟨r, g, b, a⟩) ∧
  (∀ low high : Byte, expandPixel .rgb565 [low, high] =
    ⟨BitVec.ofNat 8 ((high.toNat / 8 * 255 + 15) / 31),
     BitVec.ofNat 8 (((high.toNat % 8 * 8 + low.toNat / 32) * 255 + 31) / 63),
     BitVec.ofNat 8 ((low.toNat % 32 * 255 + 15) / 31), 255⟩) ∧
  [0, 1, 16, 30, 31].map expand5 = [0, 8, 132, 247, 255] ∧ [0, 1, 32, 62, 63].map expand6 = [0, 4, 130, 251, 255]

/-- What LOAD_DATA does, when it is refused, and how pixels expand (R146, R147, R148). That the row acts so also where no
blanking interval is open, and no packet arrives, is the model's choice (log entry 6). -/
def Obligations.LoadDataOutcome : Prop :=
  Claims.LoadDataRefusals ∧ Claims.LoadDataTakes ∧ Claims.PixelExpansion

/-- LOAD_END cuts an OPEN channel's load to its complete rows and makes it ENDING; where that leaves no word to write
the drain ends at once, and the tile is READY with those rows, or EMPTY with none. A payload length other than 1, a
channel above 1 and a channel not OPEN are refused (R150, R151). -/
def Claims.LoadEndOutcome : Prop :=
  (∀ (payload : List Byte) (s : State), payload.length ≠ 1 →
    exec (.loadEnd payload) s = .next (refuse .badLength .loadEnd s)) ∧
  (∀ (n : Byte) (s : State), 1 < n.toNat → exec (.loadEnd [n]) s = .next (refuse .badField .loadEnd s)) ∧
  ∀ (c : LoadChannel) (s : State),
    let x := s.pictures.channel c
    let e := s.setup.tiles.read x.tile.toNat
    let rows := (x.received - x.holding.length) / x.format.bytesPerPixel / e.width.toNat
    let left := x.buffer.filter fun w => w.address < e.base.toNat + 4 * (rows * e.width.toNat)
    (x.state ≠ .opened → exec (.loadEnd [LoadChannel.number c]) s = .next (refuse .notOpen .loadEnd s)) ∧
    (x.state = .opened → left ≠ [] → exec (.loadEnd [LoadChannel.number c]) s = .next { s with
      pictures := s.pictures.setChannel c
        { x with state := .ending, holding := [], buffer := left, endRows := some rows } }) ∧
    (x.state = .opened → left = [] → exec (.loadEnd [LoadChannel.number c]) s = .next { s with
      pictures := ({ s.pictures with
        directory := s.pictures.directory.write x.tile.toNat
          (if rows = 0 then ⟨.empty, 0⟩ else ⟨.ready, rows⟩) }).setChannel c
        { x with state := .idle, holding := [], buffer := [], stall := 0, endRows := none } })

/-- LOAD_ABORT discards the load of a channel that is not IDLE: the channel becomes IDLE, its tile EMPTY; an IDLE channel
is left as it was. A payload length other than 1 and a channel above 1 are refused (R152). -/
def Claims.LoadAbortOutcome : Prop :=
  (∀ (payload : List Byte) (s : State), payload.length ≠ 1 →
    exec (.loadAbort payload) s = .next (refuse .badLength .loadAbort s)) ∧
  (∀ (n : Byte) (s : State), 1 < n.toNat → exec (.loadAbort [n]) s = .next (refuse .badField .loadAbort s)) ∧
  ∀ (c : LoadChannel) (s : State),
    let x := s.pictures.channel c
    (x.state = .idle → exec (.loadAbort [LoadChannel.number c]) s = .next s) ∧
    (x.state ≠ .idle → exec (.loadAbort [LoadChannel.number c]) s = .next { s with
      pictures := ({ s.pictures with directory := s.pictures.directory.write x.tile.toNat ⟨.empty, 0⟩ }).setChannel c
        { x with state := .idle, holding := [], buffer := [], stall := 0, endRows := none } })

/-- What LOAD_END and LOAD_ABORT do, and when they are refused (R150, R151, R152). That a channel made IDLE keeps its
source format and byte count is the model's choice (log entry 15). -/
def Obligations.LoadEndings : Prop :=
  Claims.LoadEndOutcome ∧ Claims.LoadAbortOutcome

/-- DRAIN_END of an ENDING channel whose buffer is empty: the tile becomes READY with all its rows, or with the end
rows, or EMPTY with none, and the channel IDLE; any other channel is left as it was (R150, log entry 9). -/
def Claims.DrainEndOutcome : Prop :=
  ∀ (c : LoadChannel) (s : State),
    let x := s.pictures.channel c
    (x.state ≠ .ending ∨ x.buffer ≠ [] → exec (.drainEnd c) s = .next s) ∧
    (x.state = .ending → x.buffer = [] → exec (.drainEnd c) s = .next { s with
      pictures := ({ s.pictures with
        directory := s.pictures.directory.write x.tile.toNat
          (if x.endRows = some 0 then ⟨.empty, 0⟩
          else ⟨.ready, x.endRows.getD (s.setup.tiles.read x.tile.toNat).height.toNat⟩) }).setChannel c
        { x with state := .idle, holding := [], buffer := [], stall := 0, endRows := none } })

/-- STALL_ABORT of an OPEN channel whose stall count stands at 120: the load is aborted as by LOAD_ABORT and counted;
any other channel is left as it was (R153, log entry 9). A frame boundary counts on each OPEN channel and no other; a
count that comes to 120 there aborts the load and is counted, each channel for itself, and no other tile changes. -/
def Claims.StallAbortOutcome : Prop :=
  (∀ (c : LoadChannel) (s : State),
    let x := s.pictures.channel c
    (x.state ≠ .opened ∨ x.stall < 120 → exec (.stallAbort c) s = .next s) ∧
    (x.state = .opened → 120 ≤ x.stall → exec (.stallAbort c) s = .next { s with
      pictures := ({ s.pictures with
        directory := s.pictures.directory.write x.tile.toNat ⟨.empty, 0⟩
        stalls := bump s.pictures.stalls }).setChannel c
        { x with state := .idle, holding := [], buffer := [], stall := 0, endRows := none } })) ∧
  ∀ (source : TimingSource) (c : LoadChannel) (s : State),
    let x := s.pictures.channel c
    let t := (frameBoundary source s).pictures
    (x.state ≠ .opened → t.channel c = x) ∧
    (x.state = .opened → x.stall < 119 → t.channel c = { x with stall := x.stall + 1 }) ∧
    (x.state = .opened → 119 ≤ x.stall →
      t.channel c = { x with state := .idle, holding := [], buffer := [], stall := 0, endRows := none } ∧
      t.directory.read x.tile.toNat = ⟨.empty, 0⟩) ∧
    (let aborted := fun d => (s.pictures.channel d).state = .opened ∧ 119 ≤ (s.pictures.channel d).stall
    t.stalls.toNat = min 65535 (s.pictures.stalls.toNat + [LoadChannel.a, .b].countP fun d => decide (aborted d)) ∧
    t.surplus = s.pictures.surplus ∧
    ∀ k : Byte, (∀ d, aborted d → (s.pictures.channel d).tile ≠ k) →
      t.directory.read k.toNat = s.pictures.directory.read k.toNat)

/-- What DRAIN_END and STALL_ABORT do, and how a boundary counts towards a stall (R150, R153). When DRAIN_END and
STALL_ABORT act as rows of their own, and that a channel made IDLE keeps its source format and byte count, is the model's
choice (log entries 9, 15). -/
def Obligations.LoadEvents : Prop :=
  Claims.DrainEndOutcome ∧ Claims.StallAbortOutcome

/-! ## The Fetch Unit and the Memory Arbiter -/

/-- The entry of a slot on a line: none where the slot shows no tile latched READY or does not cross the line; else the
tile row, exactly the columns that lie in the tile, the canvas and the slot, their bytes, and the first burst (R158). -/
def Obligations.SpanRule : Prop :=
  ∀ (s : State) (y slot : Nat),
    let r := s.engine.frame.read slot
    (r.visible = false ∨ r.tile = none ∨ (∃ t, r.tile = some t ∧ s.fetch.tileLatch.read t.toNat = none) →
      fetchEntry s y slot = none) ∧
    ∀ (t : Byte) (k : Nat), r.visible = true → r.tile = some t → s.fetch.tileLatch.read t.toNat = some k →
      let g := s.fetch.slots.read slot
      let e := s.setup.tiles.read t.toNat
      let row : Int := (y : Int) - (g.y.toInt + g.ty.toNat)
      let crosses := 0 ≤ row ∧ row < k ∧ g.y.toInt ≤ y ∧ y < s.fetch.height ∧ (y : Int) < g.y.toInt + g.h.toNat
      let inSpan := fun c : Nat =>
        let x : Int := g.x.toInt + g.tx.toNat + c
        c < e.width.toNat ∧ 0 ≤ x ∧ g.x.toInt ≤ x ∧ x < s.fetch.width ∧ x < g.x.toInt + g.w.toNat
      (¬ crosses ∨ (∀ c, ¬ inSpan c) → fetchEntry s y slot = none) ∧
      (crosses → (∃ c, inSpan c) → ∃ x, fetchEntry s y slot = some x ∧ x.slot = slot ∧ x.tile = t ∧ (x.row : Int) = row ∧
        (∀ c, (x.firstColumn ≤ c ∧ c ≤ x.lastColumn) ↔ inSpan c) ∧
        x.canvasColumn = g.x.toInt + g.tx.toNat + x.firstColumn ∧
        x.first = e.base.toNat + (x.row * e.width.toNat + x.firstColumn) * 4 ∧
        x.past = e.base.toNat + (x.row * e.width.toNat + x.lastColumn + 1) * 4 ∧ x.nextBurst = x.first / 32)

/-- Who is granted the port: the Fetch Unit while it has bursts pending and no channel asks or the window's channel
grants have reached the load share; else channel A if it asks, else channel B; with nobody asking no grant is given and
nothing changes (R149, R166, R167). -/
def Claims.GrantChoice : Prop :=
  ∀ s : State,
    let asks := fun x : Channel =>
      (x.state = .opened ∧ (frontWords x.buffer).length = 8) ∨ (x.state = .ending ∧ x.buffer ≠ [])
    let a := asks s.pictures.channelA
    let b := asks s.pictures.channelB
    let granted := if s.arbiter.grants = 0 then 0 else s.arbiter.channelGrants
    let share := if s.arbiter.grants = 0 then s.setup.canvas.loadShare.toNat else s.arbiter.share
    (s.fetch.fetching = true → (¬ a ∧ ¬ b) ∨ share ≤ granted → grantee s = some .fetchUnit) ∧
    (s.fetch.fetching = false ∨ granted < share → a → grantee s = some (.channel .a)) ∧
    (s.fetch.fetching = false ∨ granted < share → ¬ a → b → grantee s = some (.channel .b)) ∧
    (s.fetch.fetching = false → ¬ a → ¬ b → grantee s = none ∧ ∀ check, exec (.grant check) s = .next s)

/-- GRANT to the Fetch Unit reads the next burst of the entry at the head. A clean read, or one with one bit
corrected, which is counted and stays in memory, puts the span's words into the store, and the last burst completes
the entry; an uncorrectable one is counted, abandons the entry, makes a READY tile FAULTED and marks it not READY in
the latch. Nothing else changes (R142, R161, R164, R165). That the outcome of the check is an operand, and that a
one-bit error is found again until it is written over, is the model's reading (log entry 12). -/
def Obligations.GrantReadsBurst : Prop :=
  ∀ (s : State) (e : FetchEntry) (rest : List FetchEntry), grantee s = some .fetchUnit → s.fetch.todo = e :: rest →
    e.nextBurst * 32 < 268435456 →
    let complete := decide ((e.past - 1) / 32 ≤ e.nextBurst)
    let words := (((List.range 8).map fun j => e.nextBurst * 32 + 4 * j).filter fun a =>
      decide (e.first ≤ a ∧ a < e.past)).map fun a =>
        Rgba.mk (s.memory.read a) (s.memory.read (a + 1)) (s.memory.read (a + 2)) (s.memory.read (a + 3))
    let todo := if complete then rest else { e with nextBurst := e.nextBurst + 1 } :: rest
    let filled := { s.fetch with
      filling := s.fetch.filling.map fun x =>
        if x.slot = e.slot then { x with words := x.words ++ words, complete := complete } else x
      todo := todo
      fetching := !todo.isEmpty }
    let marked := s.memory.oneBitBursts.read e.nextBurst
    (marked = false → exec (.grant .clean) s = .next { s with arbiter := windowAfter s false, fetch := filled }) ∧
    (∀ check, check = .oneBit ∨ (check = .clean ∧ marked = true) →
      exec (.grant check) s = .next { s with
        arbiter := windowAfter s false
        memory := { s.memory with oneBitBursts := s.memory.oneBitBursts.write e.nextBurst true }
        fetch := { filled with corrected := bump s.fetch.corrected } }) ∧
    exec (.grant .manyBits) s = .next { s with
      arbiter := windowAfter s false
      fetch := { s.fetch with
        uncorrectable := bump s.fetch.uncorrectable
        tileLatch := s.fetch.tileLatch.write e.tile.toNat none
        todo := rest
        fetching := !rest.isEmpty }
      pictures := if (s.pictures.directory.read e.tile.toNat).state = .ready then
          { s.pictures with
            directory := s.pictures.directory.write e.tile.toNat
              ⟨.faulted, (s.pictures.directory.read e.tile.toNat).validRows⟩ }
        else s.pictures }

/-- GRANT to a load channel writes its front burst: the words of the burst that the load supplies and zeros elsewhere,
with a good check; every byte outside the burst reads as before. The words leave the buffer, and the write that
empties an ENDING channel's buffer ends its drain. Nothing else changes (R138, R139, R149, R150). A byte of a burst
that nothing has written since power-on reads as a free value (log entry 11); that a channel made IDLE keeps its source
format and byte count is the model's choice (log entry 15). -/
def Obligations.GrantWritesBurst : Prop :=
  ∀ (check : ReadCheck) (s : State) (c : LoadChannel) (w : BufferedWord) (behind : List BufferedWord),
    grantee s = some (.channel c) → (s.pictures.channel c).buffer = w :: behind →
    w.address / 32 * 32 < 268435456 →
    let x := s.pictures.channel c
    let front := w :: behind.takeWhile fun v => v.address / 32 == w.address / 32
    let left := behind.dropWhile fun v => v.address / 32 == w.address / 32
    let supplied := fun a : Nat => match front.find? fun v => v.address == a / 4 * 4 with
      | none => (0 : Byte)
      | some v => if a % 4 = 0 then v.word.red else if a % 4 = 1 then v.word.green
          else if a % 4 = 2 then v.word.blue else v.word.alpha
    let written := { s.pictures with
      directory := s.pictures.directory.write x.tile.toNat
        (if x.endRows = some 0 then ⟨.empty, 0⟩
        else ⟨.ready, x.endRows.getD (s.setup.tiles.read x.tile.toNat).height.toNat⟩) }
    ∃ memory, exec (.grant check) s = .next { s with
        arbiter := windowAfter s true
        memory := memory
        pictures := if x.state = .ending ∧ left = [] then
            written.setChannel c { x with state := .idle, holding := [], buffer := [], stall := 0, endRows := none }
          else s.pictures.setChannel c { x with buffer := left } } ∧
      (∀ a, memory.read a = if a / 32 = w.address / 32 then supplied a else s.memory.read a) ∧
      ∀ k, memory.oneBitBursts.read k = if k = w.address / 32 then false else s.memory.oneBitBursts.read k

/-- LINE_FETCH_COMPLETE of a list read to its end makes the fetch state IDLE; WINDOW_CLOSE of a window at 16 grants puts
both counts back to 0; where that cause does not stand in the state they change nothing (R161, R167, log entry 9). -/
def Claims.FetchEventsOutcome : Prop :=
  ∀ s : State,
    (s.fetch.todo = [] → exec .lineFetchComplete s = .next { s with fetch := { s.fetch with fetching := false } }) ∧
    (s.fetch.todo ≠ [] → exec .lineFetchComplete s = .next s) ∧
    (16 ≤ s.arbiter.grants →
      exec .windowClose s = .next { s with arbiter := { s.arbiter with grants := 0, channelGrants := 0 } }) ∧
    (s.arbiter.grants < 16 → exec .windowClose s = .next s)

/-- Who is granted, and what LINE_FETCH_COMPLETE and WINDOW_CLOSE do (R161, R166, R167). When LINE_FETCH_COMPLETE and
WINDOW_CLOSE act as rows of their own is the model's choice (log entry 9). -/
def Obligations.GrantsAndWindows : Prop :=
  Claims.GrantChoice ∧ Claims.FetchEventsOutcome

/-! ## The Compositor -/

/-- One layer over another, per channel; full opacity replaces and no opacity leaves (R172). A DIM tile colour is scaled
by the slot's d, a GREY one becomes its weighted mean, others stay (R175). -/
def Claims.BlendRule : Prop :=
  (∀ (a : Nat) (p b : Rgb), a ≤ 255 →
    (blend a p b).red.toNat = (a * p.red.toNat + (255 - a) * b.red.toNat + 127) / 255 ∧
    (blend a p b).green.toNat = (a * p.green.toNat + (255 - a) * b.green.toNat + 127) / 255 ∧
    (blend a p b).blue.toNat = (a * p.blue.toNat + (255 - a) * b.blue.toNat + 127) / 255) ∧
  (∀ p b : Rgb, blend 255 p b = p ∧ blend 0 p b = b) ∧
  (∀ (d held : Byte) (t : Rgb),
    (treatColour (.dim held) d t).red.toNat = (t.red.toNat * d.toNat + 127) / 255 ∧
    (treatColour (.dim held) d t).green.toNat = (t.green.toNat * d.toNat + 127) / 255 ∧
    (treatColour (.dim held) d t).blue.toNat = (t.blue.toNat * d.toNat + 127) / 255 ∧
    (greyOf t).toNat = (77 * t.red.toNat + 150 * t.green.toNat + 29 * t.blue.toNat + 128) / 256 ∧
    treatColour .grey d t = ⟨greyOf t, greyOf t, greyOf t⟩ ∧ treatColour .none d t = t ∧ treatColour .altTile d t = t)

/-- What one slot makes of a pixel: nothing where it is not visible or does not cover the pixel; else its tile pixel
where the store holds a complete entry that reaches the column, its fill everywhere else; then the glyphs of its run, in
run order, each a cell of its width and the font's height, blended with 17 times the coverage (R171, R173, R174, R176,
R177, R178). -/
def Claims.SlotRule : Prop :=
  (∀ (d : DrawingSet) (x y slot : Nat) (under : Rgb),
    let e := d.slots.read slot
    let r := d.frame.read slot
    let covered := e.x.toInt ≤ x ∧ (x : Int) < e.x.toInt + e.w.toNat ∧ e.y.toInt ≤ y ∧ (y : Int) < e.y.toInt + e.h.toNat
    (r.visible = false ∨ ¬ covered → d.slot x y under slot = under) ∧
    (r.visible = true → covered →
      (∀ (w : Rgba) (t : Byte), storePixel d.store slot x = some w → r.tile = some t →
        d.slot x y under slot = d.glyphs slot x y
          (blend (if (d.setup.tiles.read t.toNat).keyMode = .alpha then w.alpha.toNat else 255)
            (treatColour r.applied e.d ⟨w.red, w.green, w.blue⟩) under)) ∧
      (storePixel d.store slot x = none ∨ r.tile = none →
        d.slot x y under slot = d.glyphs slot x y (blend e.fillAlpha.toNat e.fillColour under)))) ∧
  (∀ (store : List StoreEntry) (slot x : Nat), (∀ e ∈ store, e.slot = slot → e.complete = false) →
    storePixel store slot x = none) ∧
  (∀ (d : DrawingSet) (slot x y : Nat) (p : Rgb), (d.frame.read slot).run = [] → d.glyphs slot x y p = p) ∧
  ∀ (glyphs : Table (0 : Byte)) (v : FontView) (colour p : Rgb) (x y top left : Int) (run : List Nat) (c : Nat),
    let edge := left + ((run.map v.advance).sum : Nat)
    let below := drawGlyphs glyphs v colour x y top run left p
    drawGlyphs glyphs v colour x y top (run ++ [c]) left p =
      if edge ≤ x ∧ x < edge + v.width c ∧ top ≤ y ∧ y < top + v.height then
        blend (17 * coverage glyphs v.font c (x - edge).toNat (y - top).toNat) colour below
      else below

/-- The tile pixel of a slot at a canvas column: the word at that place of its complete store entry, counted from the
entry's first column, and none to the left or right of it (R173). -/
def Claims.StoreRule : Prop :=
  ∀ (before behind : List StoreEntry) (e : StoreEntry) (x : Nat), e.complete = true →
    (∀ b ∈ before, b.slot = e.slot → b.complete = false) →
    (∀ k : Nat, (x : Int) = e.canvasColumn + k → storePixel (before ++ e :: behind) e.slot x = e.words[k]?) ∧
    ((x : Int) < e.canvasColumn → storePixel (before ++ e :: behind) e.slot x = none)

/-- Where a slot's glyphs stand and what they are drawn from: the first at the price box and the record's offsets from
the slot's corner, in the slot's latched font with the snapshot's height and metrics; the coverage is a nibble of the
font's masks, low for an even column (R48, R120, R177). The frame's parts come from the latch, the records and the
snapshot (R170). -/
def Claims.GlyphPlace : Prop :=
  (∀ (s : State) (l : FrameLatch) (store : List StoreEntry),
    drawingSet s l store = ⟨s.setup, l.slots, s.engine.frame, s.engine.snapshot, store⟩) ∧
  (∀ (d : DrawingSet) (snap : Snapshot) (slot x y : Nat) (p : Rgb), d.snapshot = some snap →
    let e := d.slots.read slot
    let r := d.frame.read slot
    let font : FontView := ⟨(snap.fontHeights.read e.font.val).toNat, snap.metrics, e.font.val⟩
    let left : Int := e.x.toInt + e.px.toNat + r.xOffset
    let top : Int := e.y.toInt + e.py.toNat + r.yOffset
    (∀ c, r.run = [c] → d.glyphs slot x y p =
      if left ≤ x ∧ x < left + (snap.metrics.read (e.font.val * 25 + c)).width.toNat ∧ top ≤ y ∧
          y < top + (snap.fontHeights.read e.font.val).toNat then
        blend (17 * coverage d.setup.glyphs e.font.val c (x - left).toNat (y - top).toNat) e.priceColour p
      else p) ∧
    d.glyphs slot x y p = drawGlyphs d.setup.glyphs font e.priceColour x y top r.run left p) ∧
  (∀ (glyphs : Table (0 : Byte)) (v : FontView) (colour p : Rgb) (x y top left : Int),
    drawGlyphs glyphs v colour x y top [] left p = p) ∧
  ∀ (glyphs : Table (0 : Byte)) (font code column row : Nat), column < 64 → row < 96 →
    let mask := (glyphs.read (font * 76800 + code * 3072 + row * 32 + column / 2)).toNat
    (column % 2 = 0 → coverage glyphs font code column row = mask % 16) ∧
    (column % 2 = 1 → coverage glyphs font code column row = mask / 16) ∧
    coverage glyphs font code column row ≤ 15

/-- How layers blend, which tile pixel and which glyph pixels a slot has, and what it makes of a pixel (R48, R120, R170
to R178). -/
def Obligations.PixelLayers : Prop :=
  Claims.BlendRule ∧ Claims.StoreRule ∧ Claims.GlyphPlace ∧ Claims.SlotRule

/-- LINE_OUTPUT_START of a line that is due: it is composed over its background from the store filled for it, slots in
ascending number; that store becomes the one in output, a fetch still going on is an underrun, and the next line's
fetch begins with its list, the topmost 24 of the slots that cross it, one more being counted; nothing else changes.
A line of a blanked frame goes by with no pixel composed and nothing fetched or counted. Where no line can be output
nothing happens (R31, R32, R159, R160, R162, R163, R171, R179). That a line waits for the records and for the end of the
interval, is no event otherwise, and is held of a blanked frame as a line without pixels, is the model's choice (log
entries 5, 22, 32). -/
def Obligations.LineOutputOutcome : Prop :=
  (∀ (input : List Rgb) (s : State),
    (s.compositor.latch = none ∨ (s.engine.computing = true ∧ s.compositor.blanked = false) ∨
      s.timing.source = .awaitingInput ∨ (s.timing.source = .input ∧ s.receiver.interval = true) ∨
      (s.timing.source = .generator ∧ ∀ g, s.timing.generatorFrame = some g →
        (s.now - s.timing.frameStart) * (45 + g.activeLines) < (45 + s.compositor.lines.length) * g.period) ∨
      ∃ l, s.compositor.latch = some l ∧ l.height ≤ s.compositor.lines.length) →
    exec (.lineOutputStart input) s = .next s) ∧
  (∀ (input : List Rgb) (s : State) (l : FrameLatch), s.compositor.latch = some l → s.compositor.blanked = true →
    s.compositor.lines.length < l.height →
    ((s.timing.source = .input ∧ s.receiver.interval = false) ∨
      (s.timing.source = .generator ∧ ∃ g, s.timing.generatorFrame = some g ∧
        (45 + s.compositor.lines.length) * g.period ≤ (s.now - s.timing.frameStart) * (45 + g.activeLines))) →
    exec (.lineOutputStart input) s = .next { s with
      compositor := { s.compositor with lines := s.compositor.lines ++ [[]] } }) ∧
  ∀ (input : List Rgb) (s : State) (l : FrameLatch), s.compositor.latch = some l → s.compositor.blanked = false →
    s.engine.computing = false → s.compositor.lines.length < l.height →
    let y := s.compositor.lines.length
    ((s.timing.source = .input ∧ s.receiver.interval = false) ∨
      (s.timing.source = .generator ∧ ∃ g, s.timing.generatorFrame = some g ∧
        (45 + y) * g.period ≤ (s.now - s.timing.frameStart) * (45 + g.activeLines))) →
    ∃ composed fetch, exec (.lineOutputStart input) s = .next { s with
        compositor := { s.compositor with lines := s.compositor.lines ++ [composed], inputLine := input }
        fetch := fetch } ∧
      composed.length = l.width ∧
      (∀ x < l.width, composed[x]? = some ((List.range 96).foldl ((drawingSet s l s.fetch.filling).slot x y)
        (if l.lock = .locked then input.getD x l.plate else l.plate))) ∧
      fetch.output = s.fetch.filling ∧ fetch.tileLatch = s.fetch.tileLatch ∧ fetch.slots = s.fetch.slots ∧
      fetch.width = s.fetch.width ∧ fetch.height = s.fetch.height ∧ fetch.corrected = s.fetch.corrected ∧
      fetch.uncorrectable = s.fetch.uncorrectable ∧
      fetch.underruns = (if s.fetch.fetching then bump s.fetch.underruns else s.fetch.underruns) ∧
      (s.fetch.height ≤ y + 1 → fetch.list = [] ∧ fetch.todo = [] ∧ fetch.fetching = false ∧ fetch.filling = [] ∧
        fetch.oversubscribed = s.fetch.oversubscribed) ∧
      (y + 1 < s.fetch.height →
        let crossing := (List.range 96).reverse.filterMap (fetchEntry s (y + 1))
        fetch.list = crossing.take 24 ∧ fetch.todo = crossing.take 24 ∧ fetch.fetching = !crossing.isEmpty ∧
        fetch.filling = (crossing.take 24).map (fun e => ⟨e.slot, e.canvasColumn, [], false⟩) ∧
        fetch.oversubscribed =
          if 24 < crossing.length then bump s.fetch.oversubscribed else s.fetch.oversubscribed)

/-- Every step keeps: no more canvas lines have gone by than the latched canvas has, each of the canvas's width except in
a blanked frame (R31, R160, R171). -/
def Claims.LinesStayLegal : Prop :=
  ∀ s t : State, LinesLegal s → step s = .next t → LinesLegal t

/-- What a head has sent of the frame in progress: all its rows once the last canvas line has gone by, before that the
rows before the first canvas line still to come, and no others of a frame that ends there; in rows of its width, each
pixel the canvas pixel beneath it, or its blank colour outside the canvas, on a disabled head, and throughout a blanked
frame (R30, R31, R33, R180). -/
def Claims.HeadRule : Prop :=
  ∀ (s : State) (head : Nat) (l : FrameLatch), s.compositor.latch = some l → LinesLegal s →
    let h := l.heads.read head
    let gone := s.compositor.lines.length
    let sent := if gone = l.height then h.h.toNat else min h.h.toNat ((gone : Int) - h.y.toInt).toNat
    (headRows s head).length = sent ∧
    ∀ r < sent, ∃ row, (headRows s head)[r]? = some row ∧ row.length = h.w.toNat ∧
      ∀ c < h.w.toNat,
        let x : Int := h.x.toInt + c
        let y : Int := h.y.toInt + r
        (s.compositor.blanked = false → h.enabled = true → 0 ≤ x → x < l.width → 0 ≤ y → y < l.height →
          ∃ canvasRow, s.compositor.lines[y.toNat]? = some canvasRow ∧ row[c]? = canvasRow[x.toNat]?) ∧
        (s.compositor.blanked = true ∨ h.enabled = false ∨ x < 0 ∨ (l.width : Int) ≤ x ∨ y < 0 ∨ (l.height : Int) ≤ y →
          row[c]? = some h.blank)

/-- What a head sends of a frame, whole or cut short, and that the canvas lines it sends from stay legal (R30, R31, R33,
R160, R171, R180). Which rows go with which line is outside the manual (log entry 17). -/
def Obligations.HeadsSendTheirRectangle : Prop :=
  Claims.LinesStayLegal ∧ Claims.HeadRule

/-! ## The timing unit and the frame boundary -/

/-- The accepted geometry is the median of each field of three measurements, and there is none for fewer; it matches the
canvas in width and lines and with 10 blanking lines or more (R20, R21). -/
def Claims.MedianRule : Prop :=
  (∀ a b c : Nat,
    (middle a b c = a ∨ middle a b c = b ∨ middle a b c = c) ∧
    2 ≤ [a, b, c].countP (· ≤ middle a b c) ∧ 2 ≤ [a, b, c].countP (middle a b c ≤ ·)) ∧
  (∀ a b c : Measurement, acceptedGeometry [a, b, c] = some
    ⟨middle a.activeWidth b.activeWidth c.activeWidth, middle a.activeLines b.activeLines c.activeLines,
     middle a.blankingLines b.blankingLines c.blankingLines, middle a.period b.period c.period⟩) ∧
  (∀ l : List Measurement, l.length < 3 → acceptedGeometry l = none) ∧
  ∀ (m : Measurement) (c : CanvasEntry), matchesCanvas m c = true ↔
    m.activeWidth = c.width.toNat ∧ m.activeLines = c.height.toNat ∧ 10 ≤ m.blankingLines

/-- INPUT_FRAME_START in reset is not taken. In NO_INPUT and HOLDOVER it begins acquisition with an empty list. In
ACQUIRING and MISMATCH it completes a measurement: a matching median locks and sets the generator period, three
measurements without a match make MISMATCH, fewer leave ACQUIRING. It always opens an interval, ending one still open,
and re-arms the timeout; the output frame goes on (R10, R18 to R23, R25 to R27, R34). -/
def Claims.FrameStartBeforeLock : Prop :=
  ∀ (further waitLines : Nat) (s : State),
    (s.timing.inReset = true → exec (.inputFrameStart further waitLines) s = .next s) ∧
    (s.timing.inReset = false →
      let receiver := if s.receiver.interval = true ∧ s.receiver.assembly ≠ Assembly.hunt then
          { s.receiver with assembly := .hunt, buffer := [], truncated := bump s.receiver.truncated }
        else { s.receiver with interval := true }
      (s.timing.lock = .noInput ∨ s.timing.lock = .holdover →
        exec (.inputFrameStart further waitLines) s = .next { s with
          receiver := receiver
          timing := { s.timing with
            lock := .acquiring
            measurements := []
            current := some ⟨s.now, 0, 0, 0⟩
            timeout := some (s.now + 2 * s.setup.canvas.nominalPeriod.toNat) } }) ∧
      ∀ p : InProgress, s.timing.lock = .acquiring ∨ s.timing.lock = .mismatch → s.timing.current = some p →
        let m : Measurement := ⟨p.activeWidth, if p.activeLines = 0 then 0 else min 65535 (p.activeLines + further),
          p.blankingLines, s.now - p.startedAt⟩
        let list := (if 3 ≤ s.timing.measurements.length then s.timing.measurements.drop 1
          else s.timing.measurements) ++ [m]
        let timing := { s.timing with
          measurements := list
          current := some ⟨s.now, 0, 0, 0⟩
          timeout := some (s.now + 2 * m.period) }
        (∀ g, acceptedGeometry list = some g → matchesCanvas g s.setup.canvas = true →
          exec (.inputFrameStart further waitLines) s = .next { s with
            receiver := receiver
            timing := { timing with
              lock := .locked, generatorPeriod := some (max 8000 (min 50000 g.period)) } }) ∧
        (∀ g, acceptedGeometry list = some g → matchesCanvas g s.setup.canvas = false →
          exec (.inputFrameStart further waitLines) s = .next { s with
            receiver := receiver, timing := { timing with lock := .mismatch } }) ∧
        (s.timing.lock = .acquiring → list.length < 3 →
          exec (.inputFrameStart further waitLines) s = .next { s with receiver := receiver, timing := timing }))

/-- The median, and what INPUT_FRAME_START does outside LOCKED (R18 to R23, R25). That the active lines after the
first arrive as an operand, and what the receiver's registers that no rule clears keep, is the model's choice (log
entries 8, 10). -/
def Obligations.AcquiringTheInput : Prop :=
  Claims.MedianRule ∧ Claims.FrameStartBeforeLock

/-- INPUT_FRAME_START in LOCKED: with a matching median the lock and the new generator period stand, an input-timed
frame ends at a boundary on input timing, a handover completes with the lines of its wait, counted at the generator's
line spacing, as blanking lines, a generator frame goes on; without, the lock is MISMATCH, and a frame that ran on the
input, or waited for it, ends at a boundary on generator timing (R24, R27, R28, R29, R31). That the active lines after
the first arrive as an operand, what the receiver's registers that no rule clears keep, and that a wait's line counts
once it has passed whole, is the model's choice (log entries 8, 10, 23). -/
def Obligations.FrameStartInLock : Prop :=
  ∀ (further waitLines : Nat) (s : State) (p : InProgress) (g : Measurement), s.timing.inReset = false →
    s.timing.lock = .locked → s.timing.current = some p →
    let m : Measurement := ⟨p.activeWidth, if p.activeLines = 0 then 0 else min 65535 (p.activeLines + further),
      p.blankingLines, s.now - p.startedAt⟩
    let list := (if 3 ≤ s.timing.measurements.length then s.timing.measurements.drop 1
      else s.timing.measurements) ++ [m]
    let u := { s with
      receiver := if s.receiver.interval = true ∧ s.receiver.assembly ≠ Assembly.hunt then
          { s.receiver with assembly := .hunt, buffer := [], truncated := bump s.receiver.truncated }
        else { s.receiver with interval := true }
      timing := { s.timing with
        measurements := list
        current := some ⟨s.now, 0, 0, 0⟩
        timeout := some (s.now + 2 * m.period) } }
    let known := { u with
      timing := { u.timing with generatorPeriod := some (max 8000 (min 50000 g.period)) } }
    let lost := { u with timing := { u.timing with lock := .mismatch } }
    acceptedGeometry list = some g →
    (matchesCanvas g s.setup.canvas = true →
      (s.timing.source = .input →
        exec (.inputFrameStart further waitLines) s = .next (frameBoundary .input known)) ∧
      (s.timing.source = .awaitingInput → exec (.inputFrameStart further waitLines) s = .next { known with
        timing := { known.timing with
          source := .input
          generatorFrame := none
          blankingPassed := (match s.timing.generatorFrame with
            | none => 0
            | some w => (s.now - s.timing.frameStart) * (45 + w.activeLines) / w.period) } }) ∧
      (s.timing.source = .generator → exec (.inputFrameStart further waitLines) s = .next known)) ∧
    (matchesCanvas g s.setup.canvas = false →
      (s.timing.source ≠ .generator →
        exec (.inputFrameStart further waitLines) s = .next (frameBoundary .generator lost)) ∧
      (s.timing.source = .generator → exec (.inputFrameStart further waitLines) s = .next lost))

/-- INPUT_TIMEOUT at its deadline makes the lock HOLDOVER, discards the measurement, disarms the timeout and ends the
interval; a frame that ran on the input, or waited for it, ends at a boundary on generator timing. Before the deadline,
or with no timeout armed, nothing happens (R10, R26, R30). -/
def Claims.InputTimeoutOutcome : Prop :=
  (∀ s : State, s.timing.timeout = none → exec .inputTimeout s = .next s) ∧
  ∀ (s : State) (deadline : Nat), s.timing.timeout = some deadline →
    let u := { s with
      receiver := if s.receiver.interval = true ∧ s.receiver.assembly ≠ Assembly.hunt then
          { s.receiver with
            interval := false, assembly := .hunt, buffer := [], truncated := bump s.receiver.truncated }
        else { s.receiver with interval := false }
      timing := { s.timing with lock := .holdover, current := none, timeout := none } }
    (s.now < deadline → exec .inputTimeout s = .next s) ∧
    (deadline ≤ s.now → s.timing.source = .generator → exec .inputTimeout s = .next u) ∧
    (deadline ≤ s.now → s.timing.source ≠ .generator → exec .inputTimeout s = .next (frameBoundary .generator u))

/-- GENERATOR_FRAME_END once the frame's period has run out is a boundary: of a handover wait in LOCKED, of a generator
frame in any other state. Before that, in reset, or while the generator does not time the frame, nothing happens (R27,
R28, R29). -/
def Claims.GeneratorFrameEndOutcome : Prop :=
  (∀ s : State, s.timing.inReset = true ∨ s.timing.source ≠ .generator → exec .generatorFrameEnd s = .next s) ∧
  ∀ (s : State) (g : GeneratorFrame), s.timing.inReset = false → s.timing.source = .generator →
    s.timing.generatorFrame = some g →
    (s.now < s.timing.frameStart + g.period → exec .generatorFrameEnd s = .next s) ∧
    (s.timing.frameStart + g.period ≤ s.now → s.timing.lock = .locked →
      exec .generatorFrameEnd s = .next (frameBoundary .awaitingInput s)) ∧
    (s.timing.frameStart + g.period ≤ s.now → s.timing.lock ≠ .locked →
      exec .generatorFrameEnd s = .next (frameBoundary .generator s))

/-- What INPUT_TIMEOUT and GENERATOR_FRAME_END do (R26 to R30). That each event reads its time from the oscillator
count, is no event before it, and what the receiver's registers that no rule clears keep, is the model's choice (log
entries 4, 5, 10). -/
def Obligations.FrameTimers : Prop :=
  Claims.InputTimeoutOutcome ∧ Claims.GeneratorFrameEndOutcome

/-- What a frame boundary takes: the new frame's source, start and generator period; the boundary reading; the
Compositor's latch with the frame lock state and an unblanked frame; the Fetch Unit's latch of the READY tiles and the
geometry, an empty output store, and the fetch of line 0: its list, a store laid out empty for each entry, FETCHING while
there is one, the oversubscribed lines counted when more than 24 slots cross the line, its other counters as they were;
the Time Base's step by the ending frame's live state, then the Change Stager's application by the new reading and
daypart, then the Price Engine's snapshot of the new live state and members. The receiver, the tables, picture memory,
the arbiter's window and the port stay (R28, R52, R92, R100, R107, R118, R153, R157, R159, R160, R161, R170). A canvas
of no lines, which no WRITE stores, begins no fetch. That a latch copies whole entries, and that the frame
starts at the microsecond its command runs, is the model's choice (log entries 26, 27). -/
def Obligations.BoundaryLatches : Prop :=
  ∀ (source : TimingSource) (s : State),
    let t := frameBoundary source s
    t.timing = { s.timing with
      source := source
      frameStart := s.now
      generatorFrame := if source = .input then none
        else some ⟨s.timing.generatorPeriod.getD s.setup.canvas.nominalPeriod.toNat, s.setup.canvas.height.toNat⟩
      blankingPassed := 0 } ∧
    t.timeBase = (timeBaseBoundary s).timeBase ∧
    t.live = (stagerBoundary (timeBaseBoundary s)).live ∧ t.stager = (stagerBoundary (timeBaseBoundary s)).stager ∧
    t.pictures = s.pictures.boundary ∧
    t.timeBase.reading = (if s.timeBase.clockSet then some s.timeBase.seconds else none) ∧
    t.timeBase.daypart = daypartAt s.setup.schedule t.timeBase.reading ∧
    t.timeBase.seconds = s.timeBase.seconds ∧ t.timeBase.micros = s.timeBase.micros ∧
    t.compositor = ⟨some ⟨s.timing.lock, s.setup.canvas.width.toNat, s.setup.canvas.height.toNat, s.setup.canvas.plate,
      s.setup.heads, s.setup.slots⟩, false, [], []⟩ ∧
    (∀ k < 256, t.fetch.tileLatch.read k =
      if (t.pictures.directory.read k).state = .ready then some (t.pictures.directory.read k).validRows else none) ∧
    t.fetch.width = s.setup.canvas.width.toNat ∧ t.fetch.height = s.setup.canvas.height.toNat ∧
    t.fetch.slots = s.setup.slots ∧ t.fetch.output = [] ∧
    t.fetch.underruns = s.fetch.underruns ∧ t.fetch.corrected = s.fetch.corrected ∧
    t.fetch.uncorrectable = s.fetch.uncorrectable ∧
    (let crossing := (List.range 96).reverse.filterMap (fetchEntry t 0)
    (0 < s.setup.canvas.height.toNat →
      t.fetch.list = crossing.take 24 ∧ t.fetch.todo = crossing.take 24 ∧ t.fetch.fetching = !crossing.isEmpty ∧
      t.fetch.filling = (crossing.take 24).map (fun e => ⟨e.slot, e.canvasColumn, [], false⟩) ∧
      t.fetch.oversubscribed =
        if 24 < crossing.length then bump s.fetch.oversubscribed else s.fetch.oversubscribed) ∧
    (s.setup.canvas.height.toNat = 0 →
      t.fetch.list = [] ∧ t.fetch.todo = [] ∧ t.fetch.filling = [] ∧ t.fetch.fetching = false ∧
      t.fetch.oversubscribed = s.fetch.oversubscribed)) ∧
    (∃ p, t.engine.snapshot = some p ∧ p.live = t.live ∧ p.daypart = t.timeBase.daypart ∧ p.slots = s.setup.slots ∧
      p.formats = s.setup.formats ∧ p.fontHeights = s.setup.fontHeights ∧ p.metrics = s.setup.metrics ∧
      ∀ g < 16, p.members.read g = (s.setup.groups.read g).member (t.timeBase.runs.read g).index) ∧
    t.receiver = s.receiver ∧ t.setup = s.setup ∧ t.memory = s.memory ∧ t.arbiter = s.arbiter ∧ t.port = s.port ∧
    t.now = s.now

/-! ## The Status Line Port -/

/-- SET_NODE sets the node number; a broadcast one, a payload length other than 1 and a value above 7 are refused, in
this order; a reply waiting or being sent keeps its own (R182). -/
def Claims.SetNodeOutcome : Prop :=
  (∀ (payload : List Byte) (s : State), exec (.setNode true payload) s = .next (refuse .badField .setNode s)) ∧
  (∀ (payload : List Byte) (s : State), payload.length ≠ 1 →
    exec (.setNode false payload) s = .next (refuse .badLength .setNode s)) ∧
  (∀ (v : Byte) (s : State), 7 < v.toNat → exec (.setNode false [v]) s = .next (refuse .badField .setNode s)) ∧
  ∀ (n : Fin 8) (s : State), exec (.setNode false [BitVec.ofNat 8 n.val]) s =
    .next { s with port := { s.port with node := n } }

/-- A QUERY is refused when broadcast, with no payload, with a type above 1, with a payload length that does not fit its
type, and while a reply waits or is sent, in this order; a refused one leaves reply state and cursor (R183). -/
def Claims.QueryRefusals : Prop :=
  ∀ (q : Bool → List Byte → Instr), (q = Instr.queryStatus ∨ q = Instr.queryRead) → ∀ s : State,
    (∀ payload, exec (q true payload) s = .next (refuse .broadcastQuery .query s)) ∧
    exec (q false []) s = .next (refuse .badLength .query s) ∧
    (∀ kind rest, 1 < kind.toNat → exec (q false (kind :: rest)) s = .next (refuse .badField .query s)) ∧
    (∀ kind rest, kind.toNat ≤ 1 → rest.length ≠ kind.toNat →
      exec (q false (kind :: rest)) s = .next (refuse .badLength .query s)) ∧
    (s.port.reply ≠ .idle → exec (q false [0]) s = .next (refuse .replyBusy .query s)) ∧
    (s.port.reply ≠ .idle → ∀ n, exec (q false [1, n]) s = .next (refuse .replyBusy .query s))

/-- An accepted QUERY waits with its reply node fixed, quiet counted from 0, the line read from now on and the deadline 5
ms on. A READ fixes its
entries, as many as asked for, as fit in 248 bytes and as the table still has, and moves the cursor past them; with no
cursor it will carry none (R41, R183, R184). -/
def Claims.QueryAccepted : Prop :=
  ∀ s : State, s.port.reply = .idle →
    exec (.queryStatus false [0]) s = .next { s with
      port := { s.port with reply := .waiting s.port.node .status (s.now + 5000) 0 s.now } } ∧
    (∀ n : Byte, s.setup.cursor = none → exec (.queryRead false [1, n]) s = .next { s with
      port := { s.port with reply := .waiting s.port.node (.read none 0 0) (s.now + 5000) 0 s.now } }) ∧
    ∀ (n : Byte) (table : TableId) (index : Nat), s.setup.cursor = some ⟨table, index⟩ →
      let m := min n.toNat (min (248 / table.entryBytes) (table.entries - index))
      exec (.queryRead false [1, n]) s = .next { s with
        setup := { s.setup with cursor := some ⟨table, index + m⟩ }
        port := { s.port with reply := .waiting s.port.node (.read (some table) index m) (s.now + 5000) 0 s.now } }

/-- What SET_NODE and the two QUERY rows do, and when they are refused (R41, R182, R183, R184). That a malformed QUERY
is the QUERY_STATUS row, and that the bit times of the readings count from the acceptance, is the model's choice (log
entries 19, 20); the statement holds for both rows. -/
def Obligations.PortPackets : Prop :=
  Claims.SetNodeOutcome ∧ Claims.QueryRefusals ∧ Claims.QueryAccepted

/-- REPLY_START counts the line's readings, one for each bit time of 2 µs passed since the last and no more: high adds one
to the quiet count, low sets it to 0, so that after any readings the count is the run of highs at their end, or all of
them on top of the count before where none is low. Once a reading brings it to 20, within the deadline, the reply starts
with the frame of its content as the state now gives it; past the deadline the count stands at 20 and none starts. In reset, and with no reply waiting, nothing happens (R184, R185, R189). -/
def Claims.ReplyStartOutcome : Prop :=
  (∀ (readings : List Bool) (s : State), s.timing.inReset = true → exec (.replyStart readings) s = .next s) ∧
  (∀ (readings : List Bool) (s : State), (∀ n c d q r, s.port.reply ≠ .waiting n c d q r) →
    exec (.replyStart readings) s = .next s) ∧
  ∀ (s : State) (node : Fin 8) (content : ReplyContent) (deadline quiet readAt : Nat), s.timing.inReset = false →
    s.port.reply = .waiting node content deadline quiet readAt → quiet ≤ 20 → ∀ readings : List Bool,
    let due := readings.take ((s.now - readAt) / 2)
    let count := fun l : List Bool => if false ∈ l then (l.reverse.takeWhile id).length else quiet + l.length
    exec (.replyStart readings) s = exec (.replyStart due) s ∧
    ((∀ k ≤ due.length, count (due.take k) < 20) → exec (.replyStart readings) s = .next { s with
      port := { s.port with reply := .waiting node content deadline (count due) (readAt + 2 * due.length) } }) ∧
    ∀ k ≤ due.length, 20 ≤ count (due.take k) →
      (s.now ≤ deadline → exec (.replyStart readings) s = .next { s with
        port := { s.port with
          reply := .sending
            (match content with
            | .status => replyFrame node 0x01 (statusPayload s)
            | .read none _ _ => replyFrame node 0x02 []
            | .read (some table) first count => replyFrame node 0x02 (readEntries s table first count))
            s.now } }) ∧
      (deadline < s.now → exec (.replyStart readings) s = .next { s with
        port := { s.port with reply := .waiting node content deadline 20 (readAt + 2 * due.length) } })

/-- When the port pulls the line low: in a 0 bit of the frame it sends, and never while it waits or in reset (R184, R185,
R189). -/
def Claims.LineIsDriven : Prop :=
  ∀ s : State, drivesLow s = true ↔ s.timing.inReset = false ∧
    ∃ frame startedAt, s.port.reply = .sending frame startedAt ∧
      (frameBits frame)[(s.now - startedAt) / 2]? = some false

/-- How a reply ends: REPLY_TIMEOUT at the wait deadline drops it and counts; COLLISION in a 1 bit drops it and counts,
in a 0 bit does nothing; REPLY_END when 20 µs for each byte have passed leaves the port IDLE. Where its cause does not
stand each changes nothing (R184, R185, R186). -/
def Claims.ReplyEndings : Prop :=
  (∀ s : State, s.port.reply = .idle → exec .replyTimeout s = .next s ∧ exec .collision s = .next s ∧
    exec .replyEnd s = .next s) ∧
  (∀ (s : State) (node : Fin 8) (content : ReplyContent) (deadline quiet readAt : Nat),
    s.port.reply = .waiting node content deadline quiet readAt →
    (deadline ≤ s.now → exec .replyTimeout s = .next { s with
      port := { s.port with reply := .idle, replyTimeouts := bump s.port.replyTimeouts } }) ∧
    (s.now < deadline → exec .replyTimeout s = .next s) ∧
    exec .collision s = .next s ∧ exec .replyEnd s = .next s) ∧
  ∀ (s : State) (frame : List Byte) (startedAt : Nat), s.port.reply = .sending frame startedAt →
    let sent := (frameBits frame)[(s.now - startedAt) / 2]?
    (sent = some true → exec .collision s = .next { s with
      port := { s.port with reply := .idle, collisions := bump s.port.collisions } }) ∧
    (sent ≠ some true → exec .collision s = .next s) ∧
    (startedAt + 20 * frame.length ≤ s.now → exec .replyEnd s = .next { s with
      port := { s.port with reply := .idle } }) ∧
    (s.now < startedAt + 20 * frame.length → exec .replyEnd s = .next s) ∧ exec .replyTimeout s = .next s

/-- How a reply starts, when it pulls the line low, and how it ends (R184, R185, R186, R189). That each event reads its time from the oscillator count, that
the readings are an operand, and how the bit being sent follows from the time is the model's choice (log entries 4, 5,
20, 21). -/
def Obligations.ReplyLife : Prop :=
  Claims.ReplyStartOutcome ∧ Claims.LineIsDriven ∧ Claims.ReplyEndings

/-- The reply frame: node, kind, length, payload and the check over them, low byte first, five bytes more than the
payload; on the line ten bits a byte, a 0, the eight bits from the least significant, a 1 (R185). -/
def Claims.ReplyFrameLayout : Prop :=
  (∀ (node : Fin 8) (kind : Byte) (payload : List Byte), payload.length ≤ 248 →
    let frame := replyFrame node kind payload
    frame.length = payload.length + 5 ∧ (byteAt frame 0).toNat = node.val ∧ byteAt frame 1 = kind ∧
    (byteAt frame 2).toNat = payload.length ∧ (frame.drop 3).take payload.length = payload ∧
    frame.drop (3 + payload.length) = word16Bytes (crc (frame.take (3 + payload.length)))) ∧
  ∀ (frame : List Byte) (i : Nat) (b : Byte), frame[i]? = some b →
    (frameBits frame).length = 10 * frame.length ∧ (frameBits frame)[10 * i]? = some false ∧
    (∀ k < 8, (frameBits frame)[10 * i + 1 + k]? = some (b.getLsbD k)) ∧ (frameBits frame)[10 * i + 9]? = some true

/-- The 64 bytes of a STATUS payload, field by field at their offsets, as the blocks hold them (R14, R96, R101, R155,
R168, R187). -/
def Claims.StatusPayloadLayout : Prop :=
  ∀ s : State, PoolBounded s → ClockLegal s →
    (∀ c, (s.pictures.channel c).received < 2 ^ 32) →
    let p := statusPayload s
    let count := fun (offset : Nat) (w : Word16) => field p offset 2 = w.toNat
    p.length = 64 ∧ field p 0 1 = s.port.node.val ∧ field p 1 1 = s.timing.lock.number ∧
    (field p 2 1 = if s.timeBase.clockSet then 1 else 0) ∧ (field p 3 1 = if s.stager.hold then 1 else 0) ∧
    field p 4 4 = s.timeBase.seconds ∧ field p 8 4 = s.timeBase.micros ∧ count 12 s.live.generation ∧
    field p 14 1 = s.live.liveBook.val ∧ field p 15 1 = (s.timeBase.daypart.map Fin.val).getD 255 ∧
    field p 16 1 = s.stager.openBatch.length ∧
    field p 17 1 = 128 - (s.stager.openBatch.length + sealedRecords s.stager.sealed) ∧
    field p 18 1 = s.stager.sealed.length ∧ field p 19 1 = s.stager.immediate.length ∧
    field p 20 1 = s.pictures.channelA.state.number ∧ byteAt p 21 = s.pictures.channelA.tile ∧
    field p 22 4 = s.pictures.channelA.received ∧ field p 26 1 = s.pictures.channelB.state.number ∧
    byteAt p 27 = s.pictures.channelB.tile ∧ field p 28 4 = s.pictures.channelB.received ∧
    count 32 s.receiver.symbolErrors ∧ count 34 s.receiver.aborted ∧ count 36 s.receiver.truncated ∧
    count 38 s.receiver.overlength ∧ count 40 s.receiver.badCheck ∧ count 42 s.receiver.accepted ∧
    count 44 s.receiver.refusals ∧ count 46 s.fetch.underruns ∧ count 48 s.fetch.oversubscribed ∧
    count 50 s.fetch.corrected ∧ count 52 s.fetch.uncorrectable ∧ count 54 s.pictures.stalls ∧
    count 56 s.pictures.surplus ∧ count 58 s.port.collisions ∧ count 60 s.port.replyTimeouts ∧
    p.drop 62 = match s.receiver.lastRefusal with
      | none => [0, 0]
      | some (code, kind) => [code.code, kind]

/-- The reply frame and the STATUS payload, byte by byte (R185, R187). -/
def Obligations.ReplyLayouts : Prop :=
  Claims.ReplyFrameLayout ∧ Claims.StatusPayloadLayout

/-- What a READ carries: the entries of its table from the first on, in index order, each of the table's size, in all at
most 248 bytes (R36, R41). -/
def Claims.ReadCarriesEntries : Prop :=
  (∀ (s : State) (table : TableId) (index : Nat), (readEntry s table index).length = table.entryBytes) ∧
  (∀ (s : State) (table : TableId) (first count : Nat),
    (readEntries s table first count).length = count * table.entryBytes ∧
    ∀ k < count, ((readEntries s table first count).drop (k * table.entryBytes)).take table.entryBytes =
      readEntry s table (first + k)) ∧
  ∀ (s : State) (c : Cursor) (n : Nat), (readEntries s c.table c.index (readCount c n)).length ≤ 248

/-- An entry of a setup table as a READ returns it is the stored entry in its layout, unused bytes 0 (R36, R42, R54,
R55). -/
def Claims.SetupEntriesRead : Prop :=
  (∀ (s : State) (i : Nat),
    readEntry s .canvas i = encodeCanvas s.setup.canvas ∧ readEntry s .heads i = encodeHead (s.setup.heads.read i) ∧
    readEntry s .slots i = encodeSlot (s.setup.slots.read i) ∧
    readEntry s .formats i = encodeFormat (s.setup.formats.read i) ∧
    readEntry s .schedule i = encodeSchedule (s.setup.schedule.read i) ∧
    readEntry s .groups i = encodeGroup (s.setup.groups.read i) ∧
    readEntry s .tiles i = encodeTile (s.setup.tiles.read i) ∧
    (∀ f : Fin 4, readEntry s (.glyphs f) i = [s.setup.glyphs.read (f.val * 76800 + i)]) ∧
    ∀ f < 4, readEntry s .fontMetrics (f * 26) = encodeFontHeight (s.setup.fontHeights.read f) ∧
      ∀ c < 25, readEntry s .fontMetrics (f * 26 + 1 + c) = encodeMetric (s.setup.metrics.read (f * 25 + c))) ∧
  (∀ c : CanvasEntry, (encodeCanvas c).drop 10 = List.replicate 6 0) ∧
  (∀ h : HeadEntry, byteAt (encodeHead h) 1 = 0 ∧ (encodeHead h).drop 13 = [0, 0, 0]) ∧
  (∀ f : FormatEntry, (byteAt (encodeFormat f) 7).toNat < 8) ∧
  (∀ h : Byte, (encodeFontHeight h).drop 1 = [0, 0, 0]) ∧ (∀ m : Metric, (encodeMetric m).drop 3 = [0]) ∧
  (∀ g : GroupEntry, (byteAt (encodeGroup g) 16).toNat < 64) ∧
  ∀ t : TileEntry, (encodeTile t).drop 9 = [0, 0, 0]

/-- An ITEMS, BOOK, BINDINGS or GROUP_STATE entry as a READ returns it, field by field (R56). -/
def Claims.LiveEntriesRead : Prop :=
  ∀ (s : State) (i : Nat),
    (let x := s.live.items.read i
    let e := readEntry s .items i
    field e 0 1 = x.status.number ∧ field e 1 1 = x.modifier.kindNumber ∧ field e 2 3 = x.modifier.value ∧
    byteAt e 5 = x.tile.getD 0 ∧ byteAt e 6 = x.soldOutTile.getD 0 ∧
    field e 7 1 = bit x.tile.isSome + 2 * bit x.soldOutTile.isSome) ∧
    (∀ b : Fin 4,
      let e := readEntry s (.book b) i
      (s.live.price b i = none → field e 0 3 = 0xFFFFFF) ∧ (∀ p, s.live.price b i = some p → field e 0 3 = p.val) ∧
      byteAt e 3 = 0) ∧
    (let x := s.live.bindings.read i
    let e := readEntry s .bindings i
    field e 0 1 = bit x.active + 4 * x.source.kindNumber + 16 * x.tileChoice.kindNumber ∧
    field e 1 2 = x.source.number ∧
    byteAt e 3 = match x.tileChoice with
      | .fixed t => t
      | _ => 0) ∧
    let x := s.timeBase.runs.read i
    let e := readEntry s .groupState i
    x.index < 256 → x.count < 65536 →
      field e 0 1 = x.index ∧ field e 1 1 = bit x.stopped + 2 * bit x.badLeader ∧ field e 2 2 = x.count

/-- A RENDER entry is the published record of its slot, its fields at their bit positions, glyph positions past the run
reading 31 (R57, R136). -/
def Claims.RenderEntriesRead : Prop :=
  (∀ (s : State) (slot : Nat), readEntry s .render slot = encodeRender (s.engine.published.read slot)) ∧
  ∀ r : RenderRecord, RecordLegal r → r.xOffset < 2 ^ 13 → r.yOffset < 2 ^ 13 →
    let v := leNat (encodeRender r)
    let bits := fun low width : Nat => v / 2 ^ low % 2 ^ width
    bits 0 17 = r.display ∧ bits 17 3 = r.run.length ∧ bits 20 1 = bit r.visible ∧ bits 21 2 = r.applied.number ∧
    bits 23 1 = bit r.tile.isSome ∧ bits 24 8 = (r.tile.getD 0).toNat ∧ bits 32 10 = (r.item.map Fin.val).getD 0 ∧
    bits 42 1 = bit r.item.isSome ∧ bits 43 1 = bit r.flags.saturated ∧ bits 44 1 = bit r.flags.currencyDropped ∧
    bits 45 1 = bit r.flags.overflow ∧ bits 46 1 = bit r.flags.noPrice ∧ bits 47 1 = bit r.flags.soldOut ∧
    bits 48 1 = bit r.flags.glyphMissing ∧ bits 49 1 = bit r.flags.noFit ∧
    (∀ i < 7, bits (50 + 5 * i) 5 = r.run.getD i 31) ∧ bits 85 13 = r.xOffset ∧ bits 98 13 = r.yOffset ∧
    bits 111 1 = 0 ∧ bits 112 16 = r.generation.toNat

/-- The entries a READ carries, and what each table's entry says (R36, R41, R42, R54 to R57, R136). -/
def Obligations.ReadEntriesLayout : Prop :=
  Claims.ReadCarriesEntries ∧ Claims.SetupEntriesRead ∧ Claims.LiveEntriesRead ∧ Claims.RenderEntriesRead

/-! ## The numbers of the lists -/

/-- The numbers that stand for the values of every list: kind codes (R13), refusal codes (R14), the states of the STATUS
payload (R187), the enumerated fields of the tables (R46, R54, GROUPS mode R55), of the live state and its changes (R56,
R75), the treatment of a RENDER entry (R57), and the load channels and source formats of a LOAD_OPEN (R143, R144). -/
def Obligations.EnumerationNumbers : Prop :=
  ([PacketKind.select, .write, .query, .stage, .sealBatch, .discardOpen, .dropSealed, .hold, .release, .statusNow,
    .setTime, .groupRestart, .loadOpen, .loadData, .loadEnd, .loadAbort, .setNode, .clearCounters,
    .softReset].map PacketKind.code =
    [0x01, 0x02, 0x03, 0x10, 0x11, 0x12, 0x13, 0x14, 0x15, 0x16, 0x20, 0x21, 0x30, 0x31, 0x32, 0x33, 0x40, 0x41, 0x42]) ∧
  ([RefusalCode.badKind, .badLength, .badField, .notOpen, .stagedOnly, .tableEnd, .inUse, .poolFull, .queueFull,
    .emptyBatch, .channelBusy, .outOfOrder, .bufferFull, .replyBusy, .broadcastQuery].map RefusalCode.code =
    [1, 2, 3, 4, 5, 6, 7, 8, 9, 10, 11, 12, 13, 14, 15]) ∧
  [LockState.noInput, .acquiring, .locked, .mismatch, .holdover].map LockState.number = [0, 1, 2, 3, 4] ∧
  [ChannelState.idle, .opened, .ending].map ChannelState.number = [0, 1, 2] ∧
  [Machine.Alignment.left, .center, .right].map Machine.Alignment.number = [0, 1, 2] ∧
  [Treatment.none, .dim, .grey, .altTile].map Treatment.number = [0, 1, 2, 3] ∧
  [Decimals.zero, .two].map Decimals.number = [0, 2] ∧
  [Currency.none, .before, .after].map Currency.number = [0, 1, 2] ∧
  [TaxMode.exclusive, .inclusive].map TaxMode.number = [0, 1] ∧
  [Rounding.exact, .nearest, .up, .charm].map Rounding.number = [0, 1, 2, 3] ∧
  [Granularity.g1, .g5, .g10, .g50, .g100].map Granularity.units = [1, 5, 10, 50, 100] ∧
  [KeyMode.solid, .alpha].map KeyMode.number = [0, 1] ∧
  [GroupMode.repeating, .oneShot].map GroupMode.number = [0, 1] ∧
  [LoadChannel.a, .b].map LoadChannel.number = [0, 1] ∧
  [SourceFormat.rgb888, .rgba8888, .rgb565].map SourceFormat.number = [0, 1, 2] ∧
  (List.range 4).map SourceFormat.ofNumber = [some .rgb888, some .rgba8888, some .rgb565, none] ∧
  [Status.available, .soldOut, .hidden].map Status.number = [0, 1, 2] ∧
  (∀ (m : Fin 1001) (a f : Price),
    [Modifier.none, .percentOff m, .amountOff a, .fixed f].map Modifier.kindNumber = [0, 1, 2, 3] ∧
    [Modifier.none, .percentOff m, .amountOff a, .fixed f].map Modifier.value = [0, m.val, a.val, f.val]) ∧
  (∀ (n : Fin 1024) (g : Fin 16),
    [Source.none, .item n, .group g].map Source.kindNumber = [0, 1, 2] ∧
    [Source.none, .item n, .group g].map Source.number = [0, n.val, g.val]) ∧
  (∀ t : Byte, [TileChoice.itemTile, .fixed t, .noTile].map TileChoice.kindNumber = [0, 1, 2]) ∧
  ∀ d : Byte, [Applied.none, .dim d, .grey, .altTile].map Applied.number = [0, 1, 2, 3]
end

