-- ==== Sys2Proof/Laws/State.lean ====
section
/-! SUPPORT. One lemma for each field of the state after each replacement of a block, so that no proof unfolds a record
update. -/

namespace Sys2Proof.Machine

/-! ## After `setNow` -/

section

variable (s : State) (x : Nat)

@[simp] theorem State.setNow_now : (s.setNow x).now = x := rfl
@[simp] theorem State.setNow_fresh : (s.setNow x).fresh = s.fresh := rfl
@[simp] theorem State.setNow_receiver : (s.setNow x).receiver = s.receiver := rfl
@[simp] theorem State.setNow_timing : (s.setNow x).timing = s.timing := rfl
@[simp] theorem State.setNow_setup : (s.setNow x).setup = s.setup := rfl
@[simp] theorem State.setNow_live : (s.setNow x).live = s.live := rfl
@[simp] theorem State.setNow_stager : (s.setNow x).stager = s.stager := rfl
@[simp] theorem State.setNow_timeBase : (s.setNow x).timeBase = s.timeBase := rfl
@[simp] theorem State.setNow_engine : (s.setNow x).engine = s.engine := rfl
@[simp] theorem State.setNow_pictures : (s.setNow x).pictures = s.pictures := rfl
@[simp] theorem State.setNow_memory : (s.setNow x).memory = s.memory := rfl
@[simp] theorem State.setNow_fetch : (s.setNow x).fetch = s.fetch := rfl
@[simp] theorem State.setNow_arbiter : (s.setNow x).arbiter = s.arbiter := rfl
@[simp] theorem State.setNow_compositor : (s.setNow x).compositor = s.compositor := rfl
@[simp] theorem State.setNow_port : (s.setNow x).port = s.port := rfl
@[simp] theorem State.setNow_pending : (s.setNow x).pending = s.pending := rfl
@[simp] theorem State.setNow_self : s.setNow s.now = s := rfl
@[simp] theorem State.setNow_twice (y : Nat) : (s.setNow x).setNow y = s.setNow y := rfl

end

/-! ## After `setFresh` -/

section

variable (s : State) (x : Nat)

@[simp] theorem State.setFresh_now : (s.setFresh x).now = s.now := rfl
@[simp] theorem State.setFresh_fresh : (s.setFresh x).fresh = x := rfl
@[simp] theorem State.setFresh_receiver : (s.setFresh x).receiver = s.receiver := rfl
@[simp] theorem State.setFresh_timing : (s.setFresh x).timing = s.timing := rfl
@[simp] theorem State.setFresh_setup : (s.setFresh x).setup = s.setup := rfl
@[simp] theorem State.setFresh_live : (s.setFresh x).live = s.live := rfl
@[simp] theorem State.setFresh_stager : (s.setFresh x).stager = s.stager := rfl
@[simp] theorem State.setFresh_timeBase : (s.setFresh x).timeBase = s.timeBase := rfl
@[simp] theorem State.setFresh_engine : (s.setFresh x).engine = s.engine := rfl
@[simp] theorem State.setFresh_pictures : (s.setFresh x).pictures = s.pictures := rfl
@[simp] theorem State.setFresh_memory : (s.setFresh x).memory = s.memory := rfl
@[simp] theorem State.setFresh_fetch : (s.setFresh x).fetch = s.fetch := rfl
@[simp] theorem State.setFresh_arbiter : (s.setFresh x).arbiter = s.arbiter := rfl
@[simp] theorem State.setFresh_compositor : (s.setFresh x).compositor = s.compositor := rfl
@[simp] theorem State.setFresh_port : (s.setFresh x).port = s.port := rfl
@[simp] theorem State.setFresh_pending : (s.setFresh x).pending = s.pending := rfl
@[simp] theorem State.setFresh_self : s.setFresh s.fresh = s := rfl
@[simp] theorem State.setFresh_twice (y : Nat) : (s.setFresh x).setFresh y = s.setFresh y := rfl

end

/-! ## After `setReceiver` -/

section

variable (s : State) (x : Receiver)

@[simp] theorem State.setReceiver_now : (s.setReceiver x).now = s.now := rfl
@[simp] theorem State.setReceiver_fresh : (s.setReceiver x).fresh = s.fresh := rfl
@[simp] theorem State.setReceiver_receiver : (s.setReceiver x).receiver = x := rfl
@[simp] theorem State.setReceiver_timing : (s.setReceiver x).timing = s.timing := rfl
@[simp] theorem State.setReceiver_setup : (s.setReceiver x).setup = s.setup := rfl
@[simp] theorem State.setReceiver_live : (s.setReceiver x).live = s.live := rfl
@[simp] theorem State.setReceiver_stager : (s.setReceiver x).stager = s.stager := rfl
@[simp] theorem State.setReceiver_timeBase : (s.setReceiver x).timeBase = s.timeBase := rfl
@[simp] theorem State.setReceiver_engine : (s.setReceiver x).engine = s.engine := rfl
@[simp] theorem State.setReceiver_pictures : (s.setReceiver x).pictures = s.pictures := rfl
@[simp] theorem State.setReceiver_memory : (s.setReceiver x).memory = s.memory := rfl
@[simp] theorem State.setReceiver_fetch : (s.setReceiver x).fetch = s.fetch := rfl
@[simp] theorem State.setReceiver_arbiter : (s.setReceiver x).arbiter = s.arbiter := rfl
@[simp] theorem State.setReceiver_compositor : (s.setReceiver x).compositor = s.compositor := rfl
@[simp] theorem State.setReceiver_port : (s.setReceiver x).port = s.port := rfl
@[simp] theorem State.setReceiver_pending : (s.setReceiver x).pending = s.pending := rfl
@[simp] theorem State.setReceiver_self : s.setReceiver s.receiver = s := rfl
@[simp] theorem State.setReceiver_twice (y : Receiver) : (s.setReceiver x).setReceiver y = s.setReceiver y := rfl

end

/-! ## After `setTiming` -/

section

variable (s : State) (x : Timing)

@[simp] theorem State.setTiming_now : (s.setTiming x).now = s.now := rfl
@[simp] theorem State.setTiming_fresh : (s.setTiming x).fresh = s.fresh := rfl
@[simp] theorem State.setTiming_receiver : (s.setTiming x).receiver = s.receiver := rfl
@[simp] theorem State.setTiming_timing : (s.setTiming x).timing = x := rfl
@[simp] theorem State.setTiming_setup : (s.setTiming x).setup = s.setup := rfl
@[simp] theorem State.setTiming_live : (s.setTiming x).live = s.live := rfl
@[simp] theorem State.setTiming_stager : (s.setTiming x).stager = s.stager := rfl
@[simp] theorem State.setTiming_timeBase : (s.setTiming x).timeBase = s.timeBase := rfl
@[simp] theorem State.setTiming_engine : (s.setTiming x).engine = s.engine := rfl
@[simp] theorem State.setTiming_pictures : (s.setTiming x).pictures = s.pictures := rfl
@[simp] theorem State.setTiming_memory : (s.setTiming x).memory = s.memory := rfl
@[simp] theorem State.setTiming_fetch : (s.setTiming x).fetch = s.fetch := rfl
@[simp] theorem State.setTiming_arbiter : (s.setTiming x).arbiter = s.arbiter := rfl
@[simp] theorem State.setTiming_compositor : (s.setTiming x).compositor = s.compositor := rfl
@[simp] theorem State.setTiming_port : (s.setTiming x).port = s.port := rfl
@[simp] theorem State.setTiming_pending : (s.setTiming x).pending = s.pending := rfl
@[simp] theorem State.setTiming_self : s.setTiming s.timing = s := rfl
@[simp] theorem State.setTiming_twice (y : Timing) : (s.setTiming x).setTiming y = s.setTiming y := rfl

end

/-! ## After `setSetup` -/

section

variable (s : State) (x : Setup)

@[simp] theorem State.setSetup_now : (s.setSetup x).now = s.now := rfl
@[simp] theorem State.setSetup_fresh : (s.setSetup x).fresh = s.fresh := rfl
@[simp] theorem State.setSetup_receiver : (s.setSetup x).receiver = s.receiver := rfl
@[simp] theorem State.setSetup_timing : (s.setSetup x).timing = s.timing := rfl
@[simp] theorem State.setSetup_setup : (s.setSetup x).setup = x := rfl
@[simp] theorem State.setSetup_live : (s.setSetup x).live = s.live := rfl
@[simp] theorem State.setSetup_stager : (s.setSetup x).stager = s.stager := rfl
@[simp] theorem State.setSetup_timeBase : (s.setSetup x).timeBase = s.timeBase := rfl
@[simp] theorem State.setSetup_engine : (s.setSetup x).engine = s.engine := rfl
@[simp] theorem State.setSetup_pictures : (s.setSetup x).pictures = s.pictures := rfl
@[simp] theorem State.setSetup_memory : (s.setSetup x).memory = s.memory := rfl
@[simp] theorem State.setSetup_fetch : (s.setSetup x).fetch = s.fetch := rfl
@[simp] theorem State.setSetup_arbiter : (s.setSetup x).arbiter = s.arbiter := rfl
@[simp] theorem State.setSetup_compositor : (s.setSetup x).compositor = s.compositor := rfl
@[simp] theorem State.setSetup_port : (s.setSetup x).port = s.port := rfl
@[simp] theorem State.setSetup_pending : (s.setSetup x).pending = s.pending := rfl
@[simp] theorem State.setSetup_self : s.setSetup s.setup = s := rfl
@[simp] theorem State.setSetup_twice (y : Setup) : (s.setSetup x).setSetup y = s.setSetup y := rfl

end

/-! ## After `setLive` -/

section

variable (s : State) (x : Live)

@[simp] theorem State.setLive_now : (s.setLive x).now = s.now := rfl
@[simp] theorem State.setLive_fresh : (s.setLive x).fresh = s.fresh := rfl
@[simp] theorem State.setLive_receiver : (s.setLive x).receiver = s.receiver := rfl
@[simp] theorem State.setLive_timing : (s.setLive x).timing = s.timing := rfl
@[simp] theorem State.setLive_setup : (s.setLive x).setup = s.setup := rfl
@[simp] theorem State.setLive_live : (s.setLive x).live = x := rfl
@[simp] theorem State.setLive_stager : (s.setLive x).stager = s.stager := rfl
@[simp] theorem State.setLive_timeBase : (s.setLive x).timeBase = s.timeBase := rfl
@[simp] theorem State.setLive_engine : (s.setLive x).engine = s.engine := rfl
@[simp] theorem State.setLive_pictures : (s.setLive x).pictures = s.pictures := rfl
@[simp] theorem State.setLive_memory : (s.setLive x).memory = s.memory := rfl
@[simp] theorem State.setLive_fetch : (s.setLive x).fetch = s.fetch := rfl
@[simp] theorem State.setLive_arbiter : (s.setLive x).arbiter = s.arbiter := rfl
@[simp] theorem State.setLive_compositor : (s.setLive x).compositor = s.compositor := rfl
@[simp] theorem State.setLive_port : (s.setLive x).port = s.port := rfl
@[simp] theorem State.setLive_pending : (s.setLive x).pending = s.pending := rfl
@[simp] theorem State.setLive_self : s.setLive s.live = s := rfl
@[simp] theorem State.setLive_twice (y : Live) : (s.setLive x).setLive y = s.setLive y := rfl

end

/-! ## After `setStager` -/

section

variable (s : State) (x : Stager)

@[simp] theorem State.setStager_now : (s.setStager x).now = s.now := rfl
@[simp] theorem State.setStager_fresh : (s.setStager x).fresh = s.fresh := rfl
@[simp] theorem State.setStager_receiver : (s.setStager x).receiver = s.receiver := rfl
@[simp] theorem State.setStager_timing : (s.setStager x).timing = s.timing := rfl
@[simp] theorem State.setStager_setup : (s.setStager x).setup = s.setup := rfl
@[simp] theorem State.setStager_live : (s.setStager x).live = s.live := rfl
@[simp] theorem State.setStager_stager : (s.setStager x).stager = x := rfl
@[simp] theorem State.setStager_timeBase : (s.setStager x).timeBase = s.timeBase := rfl
@[simp] theorem State.setStager_engine : (s.setStager x).engine = s.engine := rfl
@[simp] theorem State.setStager_pictures : (s.setStager x).pictures = s.pictures := rfl
@[simp] theorem State.setStager_memory : (s.setStager x).memory = s.memory := rfl
@[simp] theorem State.setStager_fetch : (s.setStager x).fetch = s.fetch := rfl
@[simp] theorem State.setStager_arbiter : (s.setStager x).arbiter = s.arbiter := rfl
@[simp] theorem State.setStager_compositor : (s.setStager x).compositor = s.compositor := rfl
@[simp] theorem State.setStager_port : (s.setStager x).port = s.port := rfl
@[simp] theorem State.setStager_pending : (s.setStager x).pending = s.pending := rfl
@[simp] theorem State.setStager_self : s.setStager s.stager = s := rfl
@[simp] theorem State.setStager_twice (y : Stager) : (s.setStager x).setStager y = s.setStager y := rfl

end

/-! ## After `setTimeBase` -/

section

variable (s : State) (x : TimeBase)

@[simp] theorem State.setTimeBase_now : (s.setTimeBase x).now = s.now := rfl
@[simp] theorem State.setTimeBase_fresh : (s.setTimeBase x).fresh = s.fresh := rfl
@[simp] theorem State.setTimeBase_receiver : (s.setTimeBase x).receiver = s.receiver := rfl
@[simp] theorem State.setTimeBase_timing : (s.setTimeBase x).timing = s.timing := rfl
@[simp] theorem State.setTimeBase_setup : (s.setTimeBase x).setup = s.setup := rfl
@[simp] theorem State.setTimeBase_live : (s.setTimeBase x).live = s.live := rfl
@[simp] theorem State.setTimeBase_stager : (s.setTimeBase x).stager = s.stager := rfl
@[simp] theorem State.setTimeBase_timeBase : (s.setTimeBase x).timeBase = x := rfl
@[simp] theorem State.setTimeBase_engine : (s.setTimeBase x).engine = s.engine := rfl
@[simp] theorem State.setTimeBase_pictures : (s.setTimeBase x).pictures = s.pictures := rfl
@[simp] theorem State.setTimeBase_memory : (s.setTimeBase x).memory = s.memory := rfl
@[simp] theorem State.setTimeBase_fetch : (s.setTimeBase x).fetch = s.fetch := rfl
@[simp] theorem State.setTimeBase_arbiter : (s.setTimeBase x).arbiter = s.arbiter := rfl
@[simp] theorem State.setTimeBase_compositor : (s.setTimeBase x).compositor = s.compositor := rfl
@[simp] theorem State.setTimeBase_port : (s.setTimeBase x).port = s.port := rfl
@[simp] theorem State.setTimeBase_pending : (s.setTimeBase x).pending = s.pending := rfl
@[simp] theorem State.setTimeBase_self : s.setTimeBase s.timeBase = s := rfl
@[simp] theorem State.setTimeBase_twice (y : TimeBase) : (s.setTimeBase x).setTimeBase y = s.setTimeBase y := rfl

end

/-! ## After `setEngine` -/

section

variable (s : State) (x : Engine)

@[simp] theorem State.setEngine_now : (s.setEngine x).now = s.now := rfl
@[simp] theorem State.setEngine_fresh : (s.setEngine x).fresh = s.fresh := rfl
@[simp] theorem State.setEngine_receiver : (s.setEngine x).receiver = s.receiver := rfl
@[simp] theorem State.setEngine_timing : (s.setEngine x).timing = s.timing := rfl
@[simp] theorem State.setEngine_setup : (s.setEngine x).setup = s.setup := rfl
@[simp] theorem State.setEngine_live : (s.setEngine x).live = s.live := rfl
@[simp] theorem State.setEngine_stager : (s.setEngine x).stager = s.stager := rfl
@[simp] theorem State.setEngine_timeBase : (s.setEngine x).timeBase = s.timeBase := rfl
@[simp] theorem State.setEngine_engine : (s.setEngine x).engine = x := rfl
@[simp] theorem State.setEngine_pictures : (s.setEngine x).pictures = s.pictures := rfl
@[simp] theorem State.setEngine_memory : (s.setEngine x).memory = s.memory := rfl
@[simp] theorem State.setEngine_fetch : (s.setEngine x).fetch = s.fetch := rfl
@[simp] theorem State.setEngine_arbiter : (s.setEngine x).arbiter = s.arbiter := rfl
@[simp] theorem State.setEngine_compositor : (s.setEngine x).compositor = s.compositor := rfl
@[simp] theorem State.setEngine_port : (s.setEngine x).port = s.port := rfl
@[simp] theorem State.setEngine_pending : (s.setEngine x).pending = s.pending := rfl
@[simp] theorem State.setEngine_self : s.setEngine s.engine = s := rfl
@[simp] theorem State.setEngine_twice (y : Engine) : (s.setEngine x).setEngine y = s.setEngine y := rfl

end

/-! ## After `setPictures` -/

section

variable (s : State) (x : Pictures)

@[simp] theorem State.setPictures_now : (s.setPictures x).now = s.now := rfl
@[simp] theorem State.setPictures_fresh : (s.setPictures x).fresh = s.fresh := rfl
@[simp] theorem State.setPictures_receiver : (s.setPictures x).receiver = s.receiver := rfl
@[simp] theorem State.setPictures_timing : (s.setPictures x).timing = s.timing := rfl
@[simp] theorem State.setPictures_setup : (s.setPictures x).setup = s.setup := rfl
@[simp] theorem State.setPictures_live : (s.setPictures x).live = s.live := rfl
@[simp] theorem State.setPictures_stager : (s.setPictures x).stager = s.stager := rfl
@[simp] theorem State.setPictures_timeBase : (s.setPictures x).timeBase = s.timeBase := rfl
@[simp] theorem State.setPictures_engine : (s.setPictures x).engine = s.engine := rfl
@[simp] theorem State.setPictures_pictures : (s.setPictures x).pictures = x := rfl
@[simp] theorem State.setPictures_memory : (s.setPictures x).memory = s.memory := rfl
@[simp] theorem State.setPictures_fetch : (s.setPictures x).fetch = s.fetch := rfl
@[simp] theorem State.setPictures_arbiter : (s.setPictures x).arbiter = s.arbiter := rfl
@[simp] theorem State.setPictures_compositor : (s.setPictures x).compositor = s.compositor := rfl
@[simp] theorem State.setPictures_port : (s.setPictures x).port = s.port := rfl
@[simp] theorem State.setPictures_pending : (s.setPictures x).pending = s.pending := rfl
@[simp] theorem State.setPictures_self : s.setPictures s.pictures = s := rfl
@[simp] theorem State.setPictures_twice (y : Pictures) : (s.setPictures x).setPictures y = s.setPictures y := rfl

end

/-! ## After `setMemory` -/

section

variable (s : State) (x : PictureMemory)

@[simp] theorem State.setMemory_now : (s.setMemory x).now = s.now := rfl
@[simp] theorem State.setMemory_fresh : (s.setMemory x).fresh = s.fresh := rfl
@[simp] theorem State.setMemory_receiver : (s.setMemory x).receiver = s.receiver := rfl
@[simp] theorem State.setMemory_timing : (s.setMemory x).timing = s.timing := rfl
@[simp] theorem State.setMemory_setup : (s.setMemory x).setup = s.setup := rfl
@[simp] theorem State.setMemory_live : (s.setMemory x).live = s.live := rfl
@[simp] theorem State.setMemory_stager : (s.setMemory x).stager = s.stager := rfl
@[simp] theorem State.setMemory_timeBase : (s.setMemory x).timeBase = s.timeBase := rfl
@[simp] theorem State.setMemory_engine : (s.setMemory x).engine = s.engine := rfl
@[simp] theorem State.setMemory_pictures : (s.setMemory x).pictures = s.pictures := rfl
@[simp] theorem State.setMemory_memory : (s.setMemory x).memory = x := rfl
@[simp] theorem State.setMemory_fetch : (s.setMemory x).fetch = s.fetch := rfl
@[simp] theorem State.setMemory_arbiter : (s.setMemory x).arbiter = s.arbiter := rfl
@[simp] theorem State.setMemory_compositor : (s.setMemory x).compositor = s.compositor := rfl
@[simp] theorem State.setMemory_port : (s.setMemory x).port = s.port := rfl
@[simp] theorem State.setMemory_pending : (s.setMemory x).pending = s.pending := rfl
@[simp] theorem State.setMemory_self : s.setMemory s.memory = s := rfl
@[simp] theorem State.setMemory_twice (y : PictureMemory) : (s.setMemory x).setMemory y = s.setMemory y := rfl

end

/-! ## After `setFetch` -/

section

variable (s : State) (x : Fetch)

@[simp] theorem State.setFetch_now : (s.setFetch x).now = s.now := rfl
@[simp] theorem State.setFetch_fresh : (s.setFetch x).fresh = s.fresh := rfl
@[simp] theorem State.setFetch_receiver : (s.setFetch x).receiver = s.receiver := rfl
@[simp] theorem State.setFetch_timing : (s.setFetch x).timing = s.timing := rfl
@[simp] theorem State.setFetch_setup : (s.setFetch x).setup = s.setup := rfl
@[simp] theorem State.setFetch_live : (s.setFetch x).live = s.live := rfl
@[simp] theorem State.setFetch_stager : (s.setFetch x).stager = s.stager := rfl
@[simp] theorem State.setFetch_timeBase : (s.setFetch x).timeBase = s.timeBase := rfl
@[simp] theorem State.setFetch_engine : (s.setFetch x).engine = s.engine := rfl
@[simp] theorem State.setFetch_pictures : (s.setFetch x).pictures = s.pictures := rfl
@[simp] theorem State.setFetch_memory : (s.setFetch x).memory = s.memory := rfl
@[simp] theorem State.setFetch_fetch : (s.setFetch x).fetch = x := rfl
@[simp] theorem State.setFetch_arbiter : (s.setFetch x).arbiter = s.arbiter := rfl
@[simp] theorem State.setFetch_compositor : (s.setFetch x).compositor = s.compositor := rfl
@[simp] theorem State.setFetch_port : (s.setFetch x).port = s.port := rfl
@[simp] theorem State.setFetch_pending : (s.setFetch x).pending = s.pending := rfl
@[simp] theorem State.setFetch_self : s.setFetch s.fetch = s := rfl
@[simp] theorem State.setFetch_twice (y : Fetch) : (s.setFetch x).setFetch y = s.setFetch y := rfl

end

/-! ## After `setArbiter` -/

section

variable (s : State) (x : Arbiter)

@[simp] theorem State.setArbiter_now : (s.setArbiter x).now = s.now := rfl
@[simp] theorem State.setArbiter_fresh : (s.setArbiter x).fresh = s.fresh := rfl
@[simp] theorem State.setArbiter_receiver : (s.setArbiter x).receiver = s.receiver := rfl
@[simp] theorem State.setArbiter_timing : (s.setArbiter x).timing = s.timing := rfl
@[simp] theorem State.setArbiter_setup : (s.setArbiter x).setup = s.setup := rfl
@[simp] theorem State.setArbiter_live : (s.setArbiter x).live = s.live := rfl
@[simp] theorem State.setArbiter_stager : (s.setArbiter x).stager = s.stager := rfl
@[simp] theorem State.setArbiter_timeBase : (s.setArbiter x).timeBase = s.timeBase := rfl
@[simp] theorem State.setArbiter_engine : (s.setArbiter x).engine = s.engine := rfl
@[simp] theorem State.setArbiter_pictures : (s.setArbiter x).pictures = s.pictures := rfl
@[simp] theorem State.setArbiter_memory : (s.setArbiter x).memory = s.memory := rfl
@[simp] theorem State.setArbiter_fetch : (s.setArbiter x).fetch = s.fetch := rfl
@[simp] theorem State.setArbiter_arbiter : (s.setArbiter x).arbiter = x := rfl
@[simp] theorem State.setArbiter_compositor : (s.setArbiter x).compositor = s.compositor := rfl
@[simp] theorem State.setArbiter_port : (s.setArbiter x).port = s.port := rfl
@[simp] theorem State.setArbiter_pending : (s.setArbiter x).pending = s.pending := rfl
@[simp] theorem State.setArbiter_self : s.setArbiter s.arbiter = s := rfl
@[simp] theorem State.setArbiter_twice (y : Arbiter) : (s.setArbiter x).setArbiter y = s.setArbiter y := rfl

end

/-! ## After `setCompositor` -/

section

variable (s : State) (x : Compositor)

@[simp] theorem State.setCompositor_now : (s.setCompositor x).now = s.now := rfl
@[simp] theorem State.setCompositor_fresh : (s.setCompositor x).fresh = s.fresh := rfl
@[simp] theorem State.setCompositor_receiver : (s.setCompositor x).receiver = s.receiver := rfl
@[simp] theorem State.setCompositor_timing : (s.setCompositor x).timing = s.timing := rfl
@[simp] theorem State.setCompositor_setup : (s.setCompositor x).setup = s.setup := rfl
@[simp] theorem State.setCompositor_live : (s.setCompositor x).live = s.live := rfl
@[simp] theorem State.setCompositor_stager : (s.setCompositor x).stager = s.stager := rfl
@[simp] theorem State.setCompositor_timeBase : (s.setCompositor x).timeBase = s.timeBase := rfl
@[simp] theorem State.setCompositor_engine : (s.setCompositor x).engine = s.engine := rfl
@[simp] theorem State.setCompositor_pictures : (s.setCompositor x).pictures = s.pictures := rfl
@[simp] theorem State.setCompositor_memory : (s.setCompositor x).memory = s.memory := rfl
@[simp] theorem State.setCompositor_fetch : (s.setCompositor x).fetch = s.fetch := rfl
@[simp] theorem State.setCompositor_arbiter : (s.setCompositor x).arbiter = s.arbiter := rfl
@[simp] theorem State.setCompositor_compositor : (s.setCompositor x).compositor = x := rfl
@[simp] theorem State.setCompositor_port : (s.setCompositor x).port = s.port := rfl
@[simp] theorem State.setCompositor_pending : (s.setCompositor x).pending = s.pending := rfl
@[simp] theorem State.setCompositor_self : s.setCompositor s.compositor = s := rfl
@[simp] theorem State.setCompositor_twice (y : Compositor) : (s.setCompositor x).setCompositor y = s.setCompositor y := rfl

end

/-! ## After `setPort` -/

section

variable (s : State) (x : Port)

@[simp] theorem State.setPort_now : (s.setPort x).now = s.now := rfl
@[simp] theorem State.setPort_fresh : (s.setPort x).fresh = s.fresh := rfl
@[simp] theorem State.setPort_receiver : (s.setPort x).receiver = s.receiver := rfl
@[simp] theorem State.setPort_timing : (s.setPort x).timing = s.timing := rfl
@[simp] theorem State.setPort_setup : (s.setPort x).setup = s.setup := rfl
@[simp] theorem State.setPort_live : (s.setPort x).live = s.live := rfl
@[simp] theorem State.setPort_stager : (s.setPort x).stager = s.stager := rfl
@[simp] theorem State.setPort_timeBase : (s.setPort x).timeBase = s.timeBase := rfl
@[simp] theorem State.setPort_engine : (s.setPort x).engine = s.engine := rfl
@[simp] theorem State.setPort_pictures : (s.setPort x).pictures = s.pictures := rfl
@[simp] theorem State.setPort_memory : (s.setPort x).memory = s.memory := rfl
@[simp] theorem State.setPort_fetch : (s.setPort x).fetch = s.fetch := rfl
@[simp] theorem State.setPort_arbiter : (s.setPort x).arbiter = s.arbiter := rfl
@[simp] theorem State.setPort_compositor : (s.setPort x).compositor = s.compositor := rfl
@[simp] theorem State.setPort_port : (s.setPort x).port = x := rfl
@[simp] theorem State.setPort_pending : (s.setPort x).pending = s.pending := rfl
@[simp] theorem State.setPort_self : s.setPort s.port = s := rfl
@[simp] theorem State.setPort_twice (y : Port) : (s.setPort x).setPort y = s.setPort y := rfl

end

/-! ## After `setPending` -/

section

variable (s : State) (x : List Instr)

@[simp] theorem State.setPending_now : (s.setPending x).now = s.now := rfl
@[simp] theorem State.setPending_fresh : (s.setPending x).fresh = s.fresh := rfl
@[simp] theorem State.setPending_receiver : (s.setPending x).receiver = s.receiver := rfl
@[simp] theorem State.setPending_timing : (s.setPending x).timing = s.timing := rfl
@[simp] theorem State.setPending_setup : (s.setPending x).setup = s.setup := rfl
@[simp] theorem State.setPending_live : (s.setPending x).live = s.live := rfl
@[simp] theorem State.setPending_stager : (s.setPending x).stager = s.stager := rfl
@[simp] theorem State.setPending_timeBase : (s.setPending x).timeBase = s.timeBase := rfl
@[simp] theorem State.setPending_engine : (s.setPending x).engine = s.engine := rfl
@[simp] theorem State.setPending_pictures : (s.setPending x).pictures = s.pictures := rfl
@[simp] theorem State.setPending_memory : (s.setPending x).memory = s.memory := rfl
@[simp] theorem State.setPending_fetch : (s.setPending x).fetch = s.fetch := rfl
@[simp] theorem State.setPending_arbiter : (s.setPending x).arbiter = s.arbiter := rfl
@[simp] theorem State.setPending_compositor : (s.setPending x).compositor = s.compositor := rfl
@[simp] theorem State.setPending_port : (s.setPending x).port = s.port := rfl
@[simp] theorem State.setPending_pending : (s.setPending x).pending = x := rfl
@[simp] theorem State.setPending_self : s.setPending s.pending = s := rfl
@[simp] theorem State.setPending_twice (y : List Instr) : (s.setPending x).setPending y = s.setPending y := rfl

end

end Sys2Proof.Machine
end

