-- ==== Sys2Proof/Laws/Table.lean ====
section
/-! SUPPORT. Laws of indexed contents: reading after a write, what every operation does to the canonical form, and that
contents in canonical form are equal when they read alike. -/

namespace Sys2Proof.Machine

variable {α : Type}

/-! ## Lists of cells -/

theorem cellsFind_put_same (l : List (Nat × α)) (i : Nat) (v : α) : cellsFind (cellsPut l i v) i = some v := by
  induction l with
  | nil => simp [cellsPut, cellsFind]
  | cons c l ih =>
    obtain ⟨j, w⟩ := c
    by_cases h1 : i < j
    · simp [cellsPut, h1, cellsFind]
    · by_cases h2 : i = j
      · simp [cellsPut, h2, cellsFind]
      · simp [cellsPut, h1, h2, cellsFind, ih, Ne.symm h2]

theorem cellsFind_put_other (l : List (Nat × α)) {i k : Nat} (v : α) (h : k ≠ i) :
    cellsFind (cellsPut l i v) k = cellsFind l k := by
  induction l with
  | nil => simp [cellsPut, cellsFind, h.symm]
  | cons c l ih =>
    obtain ⟨j, w⟩ := c
    by_cases h1 : i < j
    · simp [cellsPut, h1, cellsFind, h.symm]
    · by_cases h2 : i = j
      · subst h2
        simp [cellsPut, cellsFind, h.symm]
      · simp [cellsPut, h1, h2, cellsFind, ih]

theorem cellsFind_drop_same (l : List (Nat × α)) (i : Nat) : cellsFind (cellsDrop l i) i = none := by
  induction l with
  | nil => simp [cellsDrop, cellsFind]
  | cons c l ih =>
    obtain ⟨j, w⟩ := c
    by_cases h : j = i <;> simp [cellsDrop, cellsFind, h, ih]

theorem cellsFind_drop_other (l : List (Nat × α)) {i k : Nat} (h : k ≠ i) :
    cellsFind (cellsDrop l i) k = cellsFind l k := by
  induction l with
  | nil => simp [cellsDrop]
  | cons c l ih =>
    obtain ⟨j, w⟩ := c
    by_cases h1 : j = i
    · subst h1
      simp [cellsDrop, cellsFind, ih, h.symm]
    · simp [cellsDrop, cellsFind, h1, ih]

/-- Indexes strictly rise, as a property of the list of indexes. -/
theorem cellsSorted_iff (l : List (Nat × α)) :
    cellsSorted l = true ↔ (l.map Prod.fst).Pairwise (· < ·) := by
  induction l with
  | nil => simp [cellsSorted]
  | cons c l ih =>
    cases l with
    | nil => simp [cellsSorted]
    | cons d l =>
      obtain ⟨i, v⟩ := c
      obtain ⟨j, w⟩ := d
      simp only [cellsSorted, Bool.and_eq_true, decide_eq_true_eq, ih]
      simp only [List.map_cons, List.pairwise_cons, List.mem_cons, forall_eq_or_imp]
      constructor
      · rintro ⟨h, h1, h2⟩
        exact ⟨⟨h, fun k hk => Nat.lt_trans h (h1 k hk)⟩, h1, h2⟩
      · rintro ⟨⟨h, -⟩, h1, h2⟩
        exact ⟨h, h1, h2⟩

/-- The cells of a list after one has been put in. -/
theorem mem_cellsPut {l : List (Nat × α)} {i : Nat} {v : α} {c : Nat × α} (h : c ∈ cellsPut l i v) :
    c = (i, v) ∨ c ∈ l := by
  induction l with
  | nil => simp [cellsPut] at h; exact .inl h
  | cons d l ih =>
    obtain ⟨j, w⟩ := d
    simp only [cellsPut] at h
    split at h
    · simpa using h
    · split at h
      · rcases List.mem_cons.1 h with h | h
        · exact .inl h
        · exact .inr (List.mem_cons_of_mem _ h)
      · rcases List.mem_cons.1 h with h | h
        · exact .inr (by simp [h])
        · rcases ih h with h | h
          · exact .inl h
          · exact .inr (List.mem_cons_of_mem _ h)

theorem cellsDrop_sublist (l : List (Nat × α)) (i : Nat) : (cellsDrop l i).Sublist l := by
  induction l with
  | nil => simp [cellsDrop]
  | cons c l ih =>
    obtain ⟨j, w⟩ := c
    simp only [cellsDrop]
    split
    · exact ih.trans (List.sublist_cons_self _ _)
    · exact ih.cons_cons _

theorem cellsSorted_put {l : List (Nat × α)} (i : Nat) (v : α) (h : cellsSorted l = true) :
    cellsSorted (cellsPut l i v) = true := by
  rw [cellsSorted_iff] at *
  induction l with
  | nil => simp [cellsPut]
  | cons c l ih =>
    obtain ⟨j, w⟩ := c
    simp only [List.map_cons, List.pairwise_cons, List.mem_map, Prod.exists, exists_and_right, exists_eq_right] at h
    obtain ⟨h1, h2⟩ := h
    simp only [cellsPut]
    split
    · rename_i hij
      simp only [List.map_cons, List.pairwise_cons, List.mem_cons, List.mem_map]
      refine ⟨?_, ?_, h2⟩
      · rintro k (rfl | ⟨⟨a, b⟩, hm, rfl⟩)
        · exact hij
        · exact Nat.lt_trans hij (h1 a ⟨b, hm⟩)
      · rintro k ⟨⟨a, b⟩, hm, rfl⟩
        exact h1 a ⟨b, hm⟩
    · split
      · rename_i hij
        subst hij
        simp only [List.map_cons, List.pairwise_cons, List.mem_map]
        refine ⟨?_, h2⟩
        rintro k ⟨⟨a, b⟩, hm, rfl⟩
        exact h1 a ⟨b, hm⟩
      · simp only [List.map_cons, List.pairwise_cons, List.mem_map]
        refine ⟨?_, ih h2⟩
        rintro k ⟨⟨a, b⟩, hm, rfl⟩
        rcases mem_cellsPut hm with he | he
        · obtain ⟨rfl, rfl⟩ := Prod.mk.inj he
          show j < a
          omega
        · exact h1 a ⟨b, he⟩

theorem cellsSorted_sublist {k l : List (Nat × α)} (h : cellsSorted l = true) (hs : k.Sublist l) :
    cellsSorted k = true := by
  rw [cellsSorted_iff] at *
  exact h.sublist (hs.map _)

/-! ## Tables -/

section
variable {d : α}

@[simp] theorem Table.read_empty (i : Nat) : (Table.empty : Table d).read i = d := rfl

/-- Reading after a write: the value written at its index, what was there before at every other. -/
theorem Table.read_write [DecidableEq α] (t : Table d) (i j : Nat) (v : α) :
    (t.write i v).read j = if j = i then v else t.read j := by
  unfold Table.write Table.read
  split
  · rename_i hv
    split
    · rename_i hj; subst hj; simp [cellsFind_drop_same, hv]
    · rename_i hj; simp [cellsFind_drop_other _ hj]
  · split
    · rename_i hj; subst hj; simp [cellsFind_put_same]
    · rename_i hj; simp [cellsFind_put_other _ _ hj]

@[simp] theorem Table.read_write_same [DecidableEq α] (t : Table d) (i : Nat) (v : α) : (t.write i v).read i = v := by
  simp [Table.read_write]

theorem Table.read_write_other [DecidableEq α] (t : Table d) {i j : Nat} (v : α) (h : j ≠ i) :
    (t.write i v).read j = t.read j := by
  simp [Table.read_write, h]

theorem cellsFind_append (k l : List (Nat × α)) (i : Nat) :
    cellsFind (k ++ l) i = (cellsFind k i).or (cellsFind l i) := by
  induction k with
  | nil => simp [cellsFind]
  | cons c k ih =>
    obtain ⟨j, w⟩ := c
    by_cases h : j = i <;> simp [cellsFind, h, ih]

/-- Reading a table given by a function: its value below the bound, the unlisted value from there on. -/
theorem Table.read_ofFn [DecidableEq α] (n : Nat) (f : Nat → α) (i : Nat) :
    (Table.ofFn (d := d) n f).read i = if i < n then f i else d := by
  unfold Table.ofFn Table.read
  induction n with
  | zero => simp [cellsFind]
  | succ n ih =>
    rw [List.range_succ, List.filterMap_append, cellsFind_append]
    by_cases hf : f n = d
    · simp only [List.filterMap_cons, hf, ↓reduceIte, List.filterMap_nil, cellsFind, Option.or_none]
      rw [ih]
      by_cases h : i < n
      · simp [h, Nat.lt_succ_of_lt h]
      · by_cases h' : i = n
        · subst h'; simp [hf]
        · have : ¬ i < n + 1 := by omega
          simp [h, this]
    · simp only [List.filterMap_cons, hf, ↓reduceIte, List.filterMap_nil, cellsFind]
      by_cases h : i < n
      · have hne : n ≠ i := by omega
        simp only [hne, ↓reduceIte, Option.or_none, ih, h, Nat.lt_succ_of_lt h]
      · have hnone : cellsFind (List.filterMap (fun i => if f i = d then none else some (i, f i)) (List.range n)) i
            = none := by
          have hmem : ∀ m : List Nat, (∀ k ∈ m, k < n) →
              cellsFind (List.filterMap (fun i => if f i = d then none else some (i, f i)) m) i = none := by
            intro m hm
            induction m with
            | nil => simp [cellsFind]
            | cons a m ihm =>
              have ha : a ≠ i := by have := hm a (by simp); omega
              have := ihm fun k hk => hm k (by simp [hk])
              by_cases hfa : f a = d <;> simp [hfa, cellsFind, ha, this]
          exact hmem _ fun k hk => List.mem_range.1 hk
        rw [hnone]
        by_cases h' : i = n
        · subst h'; simp
        · have h1 : ¬ i < n + 1 := by omega
          simp [Ne.symm h', h1]

@[simp] theorem Table.wf_empty [DecidableEq α] : (Table.empty : Table d).wf = true := rfl

theorem Table.wf_write [DecidableEq α] {t : Table d} (i : Nat) (v : α) (h : t.wf = true) : (t.write i v).wf = true := by
  unfold Table.wf at *
  simp only [Bool.and_eq_true, List.all_eq_true, decide_eq_true_eq] at *
  unfold Table.write
  split
  · exact ⟨cellsSorted_sublist h.1 (cellsDrop_sublist _ _), fun c hc => h.2 c ((cellsDrop_sublist _ _).subset hc)⟩
  · rename_i hv
    refine ⟨cellsSorted_put i v h.1, fun c hc => ?_⟩
    rcases mem_cellsPut hc with rfl | hc
    · exact hv
    · exact h.2 c hc

theorem Table.wf_ofFn [DecidableEq α] (n : Nat) (f : Nat → α) : (Table.ofFn (d := d) n f).wf = true := by
  unfold Table.wf Table.ofFn
  simp only [Bool.and_eq_true, List.all_eq_true, decide_eq_true_eq, cellsSorted_iff, List.mem_filterMap,
    Option.ite_none_left_eq_some, Option.some.injEq]
  constructor
  · rw [List.map_filterMap]
    refine (List.pairwise_lt_range (n := n)).filterMap _ ?_
    intro a b hab x hx y hy
    simp only [Option.map_eq_some_iff, Option.ite_none_left_eq_some, Option.some.injEq] at hx hy
    obtain ⟨p, ⟨-, rfl⟩, rfl⟩ := hx
    obtain ⟨q, ⟨-, rfl⟩, rfl⟩ := hy
    exact hab
  · rintro c ⟨a, -, ha, rfl⟩
    exact ha

theorem Table.wf_clearWhere [DecidableEq α] {t : Table d} (p : α → Bool) (h : t.wf = true) :
    (t.clearWhere p).wf = true := by
  unfold Table.wf at *
  simp only [Bool.and_eq_true, List.all_eq_true, decide_eq_true_eq] at *
  exact ⟨cellsSorted_sublist h.1 List.filter_sublist, fun c hc => h.2 c (List.mem_of_mem_filter hc)⟩

theorem cellsFind_eq_some_iff {l : List (Nat × α)} (h : cellsSorted l = true) (i : Nat) (v : α) :
    cellsFind l i = some v ↔ (i, v) ∈ l := by
  rw [cellsSorted_iff] at h
  induction l with
  | nil => simp [cellsFind]
  | cons c l ih =>
    obtain ⟨j, w⟩ := c
    simp only [List.map_cons, List.pairwise_cons, List.mem_map, Prod.exists, exists_and_right, exists_eq_right] at h
    simp only [cellsFind]
    split
    · rename_i hj
      subst hj
      simp only [Option.some.injEq, List.mem_cons, Prod.mk.injEq, true_and]
      constructor
      · exact fun e => .inl e.symm
      · rintro (e | e)
        · exact e.symm
        · exact absurd (h.1 j ⟨v, e⟩) (Nat.lt_irrefl _)
    · rename_i hj
      rw [ih h.2]
      simp [Ne.symm hj]

/-- Reading a table with the entries that satisfy a test put back. -/
theorem Table.read_clearWhere [DecidableEq α] {t : Table d} (p : α → Bool) (h : t.wf = true) (i : Nat) :
    (t.clearWhere p).read i = if p (t.read i) = true then d else t.read i := by
  have hw := Table.wf_clearWhere p h
  unfold Table.wf at h hw
  simp only [Bool.and_eq_true] at h hw
  unfold Table.read
  cases hf : cellsFind t.cells i with
  | none =>
    have : cellsFind (t.clearWhere p).cells i = none := by
      rw [Option.eq_none_iff_forall_ne_some]
      intro v hv
      rw [cellsFind_eq_some_iff hw.1] at hv
      rw [(cellsFind_eq_some_iff h.1 i v).2 (List.mem_of_mem_filter hv)] at hf
      cases hf
    simp [this]
  | some v =>
    have hm := (cellsFind_eq_some_iff h.1 i v).1 hf
    by_cases hp : p v = true
    · have : cellsFind (t.clearWhere p).cells i = none := by
        rw [Option.eq_none_iff_forall_ne_some]
        intro w hv
        rw [cellsFind_eq_some_iff hw.1] at hv
        have hvw : w = v := by
          have := (cellsFind_eq_some_iff h.1 i w).2 (List.mem_of_mem_filter hv)
          rw [hf] at this
          exact (Option.some.inj this).symm
        subst hvw
        simp [Table.clearWhere, hp] at hv
      simp [this, hp]
    · have : cellsFind (t.clearWhere p).cells i = some v := by
        rw [cellsFind_eq_some_iff hw.1]
        simpa [Table.clearWhere, hp] using hm
      simp [this, hp]

/-- Tables in canonical form that read alike are equal. -/
theorem Table.ext_of_read [DecidableEq α] {t u : Table d} (ht : t.wf = true) (hu : u.wf = true)
    (h : ∀ i, t.read i = u.read i) : t = u := by
  have key : ∀ (x y : Table d), x.wf = true → y.wf = true → (∀ i, x.read i = y.read i) → x.cells ⊆ y.cells := by
    intro x y hx hy hxy c hc
    obtain ⟨i, v⟩ := c
    simp only [Table.wf, Bool.and_eq_true, List.all_eq_true, decide_eq_true_eq] at hx hy
    have hf := (cellsFind_eq_some_iff hx.1 i v).2 hc
    have hr := hxy i
    simp only [Table.read, hf, Option.getD_some] at hr
    cases hg : cellsFind y.cells i with
    | none => rw [hg] at hr; exact absurd hr (hx.2 _ hc)
    | some w =>
      rw [hg] at hr
      simp only [Option.getD_some] at hr
      subst hr
      exact (cellsFind_eq_some_iff hy.1 i v).1 hg
  have hs : ∀ x : Table d, x.wf = true → x.cells.Pairwise (fun a b => a.1 < b.1) := by
    intro x hx
    simp only [Table.wf, Bool.and_eq_true] at hx
    exact List.pairwise_map.1 ((cellsSorted_iff _).1 hx.1)
  have hn : ∀ x : Table d, x.wf = true → x.cells.Nodup := fun x hx =>
    (hs x hx).imp fun h e => by subst e; exact Nat.lt_irrefl _ h
  have hp : t.cells.Perm u.cells :=
    (List.perm_ext_iff_of_nodup (hn t ht) (hn u hu)).2 fun c =>
      ⟨fun hc => key t u ht hu h hc, fun hc => key u t hu ht (fun i => (h i).symm) hc⟩
  have : t.cells = u.cells := by
    refine hp.eq_of_pairwise (le := fun a b => a.1 < b.1) ?_ (hs t ht) (hs u hu)
    intro a b _ _ h1 h2
    exact absurd (Nat.lt_trans h1 h2) (Nat.lt_irrefl _)
  cases t; cases u; simp_all

end

/-! ## Picture memory -/

theorem PictureMemory.read_writeByte (m : PictureMemory) (a b : Nat) (v : Byte) :
    (m.writeByte a v).read b = if b = a then v else m.read b := by
  unfold PictureMemory.read PictureMemory.written PictureMemory.writeByte
  split
  · rename_i h; subst h; simp [cellsFind_put_same]
  · rename_i h; simp [cellsFind_put_other _ _ h]

@[simp] theorem PictureMemory.writeBytes_powerOns (m : PictureMemory) (a : Nat) (l : List Byte) :
    (m.writeBytes a l).powerOns = m.powerOns := by
  induction l generalizing m a with
  | nil => rfl
  | cons v l ih => simp [PictureMemory.writeBytes, ih, PictureMemory.writeByte]

@[simp] theorem PictureMemory.writeBytes_oneBitBursts (m : PictureMemory) (a : Nat) (l : List Byte) :
    (m.writeBytes a l).oneBitBursts = m.oneBitBursts := by
  induction l generalizing m a with
  | nil => rfl
  | cons v l ih => simp [PictureMemory.writeBytes, ih, PictureMemory.writeByte]

/-- Reading after consecutive bytes have been written: the byte written within them, what was there before outside. -/
theorem PictureMemory.read_writeBytes (m : PictureMemory) (a b : Nat) (l : List Byte) :
    (m.writeBytes a l).read b = if h : a ≤ b ∧ b < a + l.length then l[b - a] else m.read b := by
  induction l generalizing m a with
  | nil =>
    have : ¬ (a ≤ b ∧ b < a) := by omega
    simp [PictureMemory.writeBytes, this]
  | cons v l ih =>
    rw [PictureMemory.writeBytes, ih]
    by_cases h1 : a + 1 ≤ b ∧ b < a + 1 + l.length
    · have h2 : a ≤ b ∧ b < a + (v :: l).length := by simp; omega
      obtain ⟨k, rfl⟩ : ∃ k, b = a + 1 + k := ⟨b - (a + 1), by omega⟩
      rw [dif_pos h1, dif_pos h2]
      have e1 : a + 1 + k - (a + 1) = k := by omega
      have e2 : a + 1 + k - a = k + 1 := by omega
      simp only [e1, e2, List.getElem_cons_succ]
    · rw [dif_neg h1, PictureMemory.read_writeByte]
      by_cases h3 : b = a
      · subst h3
        have h2 : b ≤ b ∧ b < b + (v :: l).length := by simp
        rw [dif_pos h2]
        simp
      · have h2 : ¬ (a ≤ b ∧ b < a + (v :: l).length) := by simp; omega
        rw [dif_neg h2, if_neg h3]

theorem PictureMemory.wf_writeBytes {m : PictureMemory} (a : Nat) (l : List Byte) (h : m.wf = true) :
    (m.writeBytes a l).wf = true := by
  induction l generalizing m a with
  | nil => exact h
  | cons v l ih =>
    refine ih (a + 1) ?_
    unfold PictureMemory.wf at *
    simp only [Bool.and_eq_true] at *
    exact ⟨cellsSorted_put a v h.1, h.2⟩

end Sys2Proof.Machine
end

