-- ==== Sys2Proof/Laws/Boundary.lean ====
section
/-! SUPPORT. What a frame boundary leaves of each block, and what each of its parts leaves alone. -/

namespace Sys2Proof.Machine

/-! ## The Fetch Unit's line fetch -/

section
variable (y : Nat) (s : State)

theorem beginFetch_eq : beginFetch y s = s.setFetch (beginFetch y s).fetch := rfl

/-- The fetch of a line changes the Fetch Unit and nothing else. -/
theorem fetchLine_eq : fetchLine y s = s.setFetch (fetchLine y s).fetch := by
  unfold fetchLine; split <;> rfl

@[simp] theorem fetchLine_now : (fetchLine y s).now = s.now := by rw [fetchLine_eq]; rfl
@[simp] theorem fetchLine_fresh : (fetchLine y s).fresh = s.fresh := by rw [fetchLine_eq]; rfl
@[simp] theorem fetchLine_receiver : (fetchLine y s).receiver = s.receiver := by rw [fetchLine_eq]; rfl
@[simp] theorem fetchLine_timing : (fetchLine y s).timing = s.timing := by rw [fetchLine_eq]; rfl
@[simp] theorem fetchLine_setup : (fetchLine y s).setup = s.setup := by rw [fetchLine_eq]; rfl
@[simp] theorem fetchLine_live : (fetchLine y s).live = s.live := by rw [fetchLine_eq]; rfl
@[simp] theorem fetchLine_stager : (fetchLine y s).stager = s.stager := by rw [fetchLine_eq]; rfl
@[simp] theorem fetchLine_timeBase : (fetchLine y s).timeBase = s.timeBase := by rw [fetchLine_eq]; rfl
@[simp] theorem fetchLine_engine : (fetchLine y s).engine = s.engine := by rw [fetchLine_eq]; rfl
@[simp] theorem fetchLine_pictures : (fetchLine y s).pictures = s.pictures := by rw [fetchLine_eq]; rfl
@[simp] theorem fetchLine_memory : (fetchLine y s).memory = s.memory := by rw [fetchLine_eq]; rfl
@[simp] theorem fetchLine_arbiter : (fetchLine y s).arbiter = s.arbiter := by rw [fetchLine_eq]; rfl
@[simp] theorem fetchLine_compositor : (fetchLine y s).compositor = s.compositor := by rw [fetchLine_eq]; rfl
@[simp] theorem fetchLine_port : (fetchLine y s).port = s.port := by rw [fetchLine_eq]; rfl
@[simp] theorem fetchLine_pending : (fetchLine y s).pending = s.pending := by rw [fetchLine_eq]; rfl

/-- Everything the start of a line's fetch can do to the Fetch Unit: with such a line in the frame its list is built and
its store laid out, otherwise no fetch is in progress; latches, output store and the other counters stay (R159, R160,
R161). -/
theorem fetchLine_cases :
    (y < s.fetch.height ∧ (fetchLine y s).fetch = { s.fetch with
      list := (crossings s y).take fetchListBound
      todo := (crossings s y).take fetchListBound
      fetching := !((crossings s y).take fetchListBound).isEmpty
      filling := ((crossings s y).take fetchListBound).map FetchEntry.blankStore
      oversubscribed :=
        if fetchListBound < (crossings s y).length then bump s.fetch.oversubscribed else s.fetch.oversubscribed }) ∨
    (s.fetch.height ≤ y ∧ (fetchLine y s).fetch = s.fetch.abandon) := by
  unfold fetchLine
  split
  · exact .inl ⟨by assumption, rfl⟩
  · exact .inr ⟨by omega, rfl⟩

end

/-! ## The whole boundary -/

section
variable (source : TimingSource) (s : State)

/-- The state a boundary's Fetch Unit latches from: every other block at the new frame. -/
def boundaryBlocks (source : TimingSource) (s : State) : State :=
  compositorBoundary (engineBoundary (picturesBoundary (stagerBoundary (timeBaseBoundary (timingBoundary source s)))))

theorem frameBoundary_eq : frameBoundary source s = fetchBoundary (boundaryBlocks source s) := rfl

@[simp] theorem frameBoundary_now : (frameBoundary source s).now = s.now := by
  simp [frameBoundary, fetchBoundary, compositorBoundary, engineBoundary, picturesBoundary, stagerBoundary,
    timeBaseBoundary, timingBoundary]
@[simp] theorem frameBoundary_fresh : (frameBoundary source s).fresh = s.fresh := by
  simp [frameBoundary, fetchBoundary, compositorBoundary, engineBoundary, picturesBoundary, stagerBoundary,
    timeBaseBoundary, timingBoundary]
@[simp] theorem frameBoundary_receiver : (frameBoundary source s).receiver = s.receiver := by
  simp [frameBoundary, fetchBoundary, compositorBoundary, engineBoundary, picturesBoundary, stagerBoundary,
    timeBaseBoundary, timingBoundary]
@[simp] theorem frameBoundary_setup : (frameBoundary source s).setup = s.setup := by
  simp [frameBoundary, fetchBoundary, compositorBoundary, engineBoundary, picturesBoundary, stagerBoundary,
    timeBaseBoundary, timingBoundary]
@[simp] theorem frameBoundary_memory : (frameBoundary source s).memory = s.memory := by
  simp [frameBoundary, fetchBoundary, compositorBoundary, engineBoundary, picturesBoundary, stagerBoundary,
    timeBaseBoundary, timingBoundary]
@[simp] theorem frameBoundary_arbiter : (frameBoundary source s).arbiter = s.arbiter := by
  simp [frameBoundary, fetchBoundary, compositorBoundary, engineBoundary, picturesBoundary, stagerBoundary,
    timeBaseBoundary, timingBoundary]
@[simp] theorem frameBoundary_port : (frameBoundary source s).port = s.port := by
  simp [frameBoundary, fetchBoundary, compositorBoundary, engineBoundary, picturesBoundary, stagerBoundary,
    timeBaseBoundary, timingBoundary]
@[simp] theorem frameBoundary_pending : (frameBoundary source s).pending = s.pending := by
  simp [frameBoundary, fetchBoundary, compositorBoundary, engineBoundary, picturesBoundary, stagerBoundary,
    timeBaseBoundary, timingBoundary]

/-- The timing unit after a boundary (R27, R28). -/
theorem frameBoundary_timing : (frameBoundary source s).timing = (timingBoundary source s).timing := by
  simp [frameBoundary, fetchBoundary, compositorBoundary, engineBoundary, picturesBoundary, stagerBoundary,
    timeBaseBoundary]

/-- The Picture Loader after a boundary (R153). -/
theorem frameBoundary_pictures : (frameBoundary source s).pictures = s.pictures.boundary := by
  simp [frameBoundary, fetchBoundary, compositorBoundary, engineBoundary, picturesBoundary, stagerBoundary,
    timeBaseBoundary, timingBoundary]

/-- The Time Base after a boundary (R100, R102, R107). -/
theorem frameBoundary_timeBase : (frameBoundary source s).timeBase = (timeBaseBoundary s).timeBase := by
  simp [frameBoundary, fetchBoundary, compositorBoundary, engineBoundary, picturesBoundary, stagerBoundary,
    timeBaseBoundary, timingBoundary]

/-- The live price state after a boundary, by the Time Base's new reading and daypart (R92 to R95). -/
theorem frameBoundary_live : (frameBoundary source s).live = newLive (timeBaseBoundary s) := by
  simp [frameBoundary, fetchBoundary, compositorBoundary, engineBoundary, picturesBoundary, stagerBoundary,
    timeBaseBoundary, timingBoundary, newLive]

/-- The staging state after a boundary (R92, R94). -/
theorem frameBoundary_stager : (frameBoundary source s).stager = (stagerBoundary (timeBaseBoundary s)).stager := by
  simp [frameBoundary, fetchBoundary, compositorBoundary, engineBoundary, picturesBoundary, stagerBoundary,
    timeBaseBoundary, timingBoundary]

/-- The Price Engine after a boundary: a snapshot of the new frame, and the records settled from it (R118, R119). -/
theorem frameBoundary_engine : (frameBoundary source s).engine = { s.engine with
    snapshot := some (takeSnapshot (frameBoundary source s))
    computing := true
    frame := Table.ofFn 96 (settledRecord (takeSnapshot (frameBoundary source s))) } := by
  have h : takeSnapshot (frameBoundary source s) =
      takeSnapshot (picturesBoundary (stagerBoundary (timeBaseBoundary (timingBoundary source s)))) := by
    simp [takeSnapshot, frameBoundary, fetchBoundary, compositorBoundary, engineBoundary]
  rw [h]
  simp [frameBoundary, fetchBoundary, compositorBoundary, engineBoundary, picturesBoundary, stagerBoundary,
    timeBaseBoundary, timingBoundary]

/-- The Compositor after a boundary (R170). -/
theorem frameBoundary_compositor : (frameBoundary source s).compositor =
    { latch := some (takeLatch s), blanked := false, lines := [], inputLine := [] } := by
  simp [frameBoundary, fetchBoundary, compositorBoundary, engineBoundary, picturesBoundary, stagerBoundary,
    timeBaseBoundary, timingBoundary, takeLatch]

end

end Sys2Proof.Machine
end

