-- ==== Sys2Proof/Laws/Owners.lean ====
section
/-! SUPPORT. What the owner of each packet kind can answer: for every owner one lemma that says everything an accepted
packet does, and what a refusal leaves. -/

namespace Sys2Proof.Machine

/-! ## Refusals -/

section
variable (code : RefusalCode) (kind : PacketKind) (s : State)

theorem refuse_eq : refuse code kind s = s.setReceiver
    { s.receiver with refusals := bump s.receiver.refusals, lastRefusal := some (code, kind.code) } := rfl

@[simp] theorem refuse_now : (refuse code kind s).now = s.now := rfl
@[simp] theorem refuse_fresh : (refuse code kind s).fresh = s.fresh := rfl
@[simp] theorem refuse_timing : (refuse code kind s).timing = s.timing := rfl
@[simp] theorem refuse_setup : (refuse code kind s).setup = s.setup := rfl
@[simp] theorem refuse_live : (refuse code kind s).live = s.live := rfl
@[simp] theorem refuse_stager : (refuse code kind s).stager = s.stager := rfl
@[simp] theorem refuse_timeBase : (refuse code kind s).timeBase = s.timeBase := rfl
@[simp] theorem refuse_engine : (refuse code kind s).engine = s.engine := rfl
@[simp] theorem refuse_pictures : (refuse code kind s).pictures = s.pictures := rfl
@[simp] theorem refuse_memory : (refuse code kind s).memory = s.memory := rfl
@[simp] theorem refuse_fetch : (refuse code kind s).fetch = s.fetch := rfl
@[simp] theorem refuse_arbiter : (refuse code kind s).arbiter = s.arbiter := rfl
@[simp] theorem refuse_compositor : (refuse code kind s).compositor = s.compositor := rfl
@[simp] theorem refuse_port : (refuse code kind s).port = s.port := rfl
@[simp] theorem refuse_pending : (refuse code kind s).pending = s.pending := rfl

@[simp] theorem settle_ok (t : State) : settle kind s (.ok t) = t := rfl
@[simp] theorem settle_error : settle kind s (.error code) = refuse code kind s := rfl

end

/-- A packet is carried out, or leaves its owner as it was and is recorded as a refusal (R14). -/
theorem settle_cases (kind : PacketKind) (s : State) (r : Except RefusalCode State) :
    (∃ t, r = .ok t ∧ settle kind s r = t) ∨ ∃ code, r = .error code ∧ settle kind s r = refuse code kind s := by
  cases r with
  | ok t => exact .inl ⟨t, rfl, rfl⟩
  | error code => exact .inr ⟨code, rfl, rfl⟩

/-- A property that refusals keep, and that holds of what an accepted packet leaves, holds of what a packet leaves. -/
theorem settle_keeps {P : State → Prop} {kind : PacketKind} {s : State} {r : Except RefusalCode State}
    (href : ∀ code, P (refuse code kind s)) (hok : ∀ t, r = .ok t → P t) : P (settle kind s r) := by
  cases r with
  | ok t => exact hok t rfl
  | error code => exact href code

/-! ## Table Loader -/

/-- An accepted SELECT (R37). -/
theorem select_ok {payload : List Byte} {s t : State} (h : select payload s = .ok t) :
    ∃ c : Cursor, c.index < c.table.entries ∧ t = s.setSetup { s.setup with cursor := some c } := by
  unfold select at h
  split at h
  · cases h
  · split at h
    · cases h
    · split at h
      · rename_i table _ hlt
        exact ⟨⟨table, field payload 1 3⟩, hlt, (Except.ok.inj h).symm⟩
      · cases h

/-- What one entry's side effect changes beside the table: its group's runtime record, or its tile's directory record. -/
theorem writeEffect_cases (table : TableId) (index : Nat) (s : State) :
    (table = .groups ∧ writeEffect table index s = s.setTimeBase { s.timeBase with
      runs := s.timeBase.runs.write index (s.timeBase.runs.read index).restart }) ∨
    (table = .tiles ∧ writeEffect table index s =
      s.setPictures (s.pictures.setTile (BitVec.ofNat 8 index) TileRecord.initial)) ∨
    (table ≠ .groups ∧ table ≠ .tiles ∧ writeEffect table index s = s) := by
  cases table <;> simp [writeEffect]

/-- A property of the state and the index at which the next entry goes, kept by every entry that is stored, holds of
what the entries of a WRITE leave (R40). -/
theorem writeEntries_keeps {table : TableId} {P : Nat → State → Prop}
    (hstore : ∀ e index s u, P index s → index < table.entries → putEntry table index e s.setup = some u →
      P (index + 1) (writeEffect table index (s.setSetup u))) :
    ∀ (entries : List (List Byte)) (index : Nat) (s : State), P index s →
      P (writeEntries table entries index s).2.1 (writeEntries table entries index s).1
  | [], _, _, h => h
  | e :: rest, index, s, h => by
    unfold writeEntries
    split
    · exact h
    · split
      · exact h
      · rename_i hlt u hput
        exact writeEntries_keeps hstore rest (index + 1) _ (hstore e index s u h (by omega) hput)

/-- What a WRITE can do: be refused and leave all as it was, or store entries from the cursor on and leave the cursor
behind them, with or without a refusal (R39, R40). -/
theorem write_cases (payload : List Byte) (s : State) :
    (∃ code, write payload s = refuse code .write s) ∨
    ∃ c, s.setup.cursor = some c ∧ c.table.readOnly = false ∧
      writeInUse s c.table c.index (payload.length / c.table.entryBytes) = false ∧
      (write payload s = placeCursor c.table (writeEntries c.table
          (chunks c.table.entryBytes (payload.length / c.table.entryBytes) payload) c.index s) ∨
        ∃ code, write payload s = refuse code .write (placeCursor c.table (writeEntries c.table
          (chunks c.table.entryBytes (payload.length / c.table.entryBytes) payload) c.index s))) := by
  unfold write
  split
  · exact .inl ⟨_, rfl⟩
  · rename_i c hc
    split
    · exact .inl ⟨_, rfl⟩
    · rename_i hro
      simp only
      split
      · exact .inl ⟨_, rfl⟩
      · rename_i hin
        refine .inr ⟨c, hc, by simpa using hro, by simpa using hin, ?_⟩
        split
        · exact .inl rfl
        · exact .inr ⟨_, rfl⟩

/-! ## Change Stager -/

/-- An accepted STAGE (R79). -/
theorem stage_ok {payload : List Byte} {s t : State} (h : stage payload s = .ok t) :
    ∃ records : List Change, records.length ≤ s.stager.free ∧
      t = s.setStager { s.stager with openBatch := s.stager.openBatch ++ records } := by
  unfold stage at h
  split at h
  · cases h
  · split at h
    · cases h
    · split at h
      · cases h
      · rename_i records _ hfree
        exact ⟨records, Nat.not_lt.1 hfree, (Except.ok.inj h).symm⟩

/-- An accepted SEAL (R82). -/
theorem sealBatch_ok {payload : List Byte} {s t : State} (h : sealBatch payload s = .ok t) :
    ∃ tag, s.stager.openBatch ≠ [] ∧ s.stager.sealed.length < 4 ∧
      t = s.setStager { s.stager with
        openBatch := [], sealed := s.stager.sealed ++ [⟨s.stager.openBatch, tag⟩] } := by
  unfold sealBatch at h
  split at h
  · cases h
  · split at h
    · cases h
    · split at h
      · cases h
      · split at h
        · cases h
        · rename_i tag _ hopen hfull
          exact ⟨tag, hopen, Nat.not_le.1 hfull, (Except.ok.inj h).symm⟩

/-- An accepted packet whose payload must be empty. -/
theorem needsEmpty_ok {payload : List Byte} {u t : State} (h : needsEmpty payload u = .ok t) :
    payload = [] ∧ t = u := by
  unfold needsEmpty at h
  split at h
  · exact ⟨by assumption, (Except.ok.inj h).symm⟩
  · cases h

theorem allOf_length {α β : Type} {f : α → Option β} : ∀ {l : List α} {m : List β}, allOf f l = some m → m.length = l.length
  | [], m, h => by simp [allOf] at h; subst h; rfl
  | x :: xs, m, h => by
    unfold allOf at h
    split at h
    · rename_i y ys _ hys
      obtain rfl := Option.some.inj h
      simp [allOf_length hys]
    · cases h

theorem chunks_length (e n : Nat) (bytes : List Byte) : (chunks e n bytes).length = n := by
  induction n generalizing bytes with
  | zero => rfl
  | succ n ih => simp [chunks, ih]

/-- An accepted STATUS_NOW (R87). -/
theorem statusNow_ok {payload : List Byte} {s t : State} (h : statusNow payload s = .ok t) :
    ∃ pairs : List (Fin 1024 × Status), s.stager.immediate.length + pairs.length ≤ 32 ∧
      t = s.setStager { s.stager with immediate := s.stager.immediate ++ pairs } := by
  unfold statusNow at h
  split at h
  · cases h
  · rename_i hlen
    split at h
    · cases h
    · rename_i pairs hpairs
      split at h
      · cases h
      · rename_i hroom
        have := allOf_length hpairs
        rw [chunks_length] at this
        exact ⟨pairs, by omega, (Except.ok.inj h).symm⟩

/-! ## Time Base -/

/-- An accepted SET_TIME sets the clock (R99); in reset it changes nothing (R98). -/
theorem setTime_ok {payload : List Byte} {s t : State} (h : setTime payload s = .ok t) :
    (s.timing.inReset = true ∧ t = s) ∨
    (s.timing.inReset = false ∧ ∃ seconds micros, seconds < 86400 ∧ micros < 1000000 ∧
      t = s.setTimeBase { s.timeBase with clockSet := true, seconds := seconds, micros := micros }) := by
  unfold setTime at h
  split at h
  · cases h
  · split at h
    · cases h
    · rename_i hr
      split at h
      · rename_i hin
        exact .inl ⟨hin, (Except.ok.inj h).symm⟩
      · rename_i hin
        exact .inr ⟨by simpa using hin, _, _, by omega, by omega, (Except.ok.inj h).symm⟩

/-- An accepted GROUP_RESTART: each record is reset or stays (R113). -/
theorem groupRestart_ok {payload : List Byte} {s t : State} (h : groupRestart payload s = .ok t) :
    ∃ p : Nat → Bool, t = s.setTimeBase { s.timeBase with
      runs := Table.ofFn 16 fun f => if p f then (s.timeBase.runs.read f).restart else s.timeBase.runs.read f } := by
  unfold groupRestart at h
  split at h
  · cases h
  · split at h
    · refine ⟨fun _ => true, (Except.ok.inj h).symm.trans ?_⟩
      simp [restartAll]
    · split at h
      · cases h
      · refine ⟨fun f => decide (f = (byteAt payload 0).toNat ∨
          leaderOf s.setup.groups f = some (byteAt payload 0).toNat), (Except.ok.inj h).symm.trans ?_⟩
        simp [restartGroup]

/-! ## Picture Loader -/

/-- An accepted LOAD_OPEN (R144, R145). -/
theorem loadOpen_ok {payload : List Byte} {s t : State} (h : loadOpen payload s = .ok t) :
    ∃ c f tile, (s.pictures.channel c).state = .idle ∧
      (s.pictures.channel (otherChannel c)).targets tile = false ∧
      ¬ ((s.pictures.directory.read tile.toNat).state = .ready ∧ tileShown s tile = true) ∧
      (s.setup.tiles.read tile.toNat).base.toNat + (s.setup.tiles.read tile.toNat).pixels * 4 ≤ memoryBytes ∧
      t = s.setPictures ((s.pictures.setTile tile ⟨.loading, 0⟩).setChannel c
        ((s.pictures.channel c).opening tile f (s.setup.tiles.read tile.toNat))) := by
  unfold loadOpen at h
  split at h
  · cases h
  · split at h
    · rename_i c f _ _
      simp only at h
      split at h
      · cases h
      · rename_i hbusy
        split at h
        · cases h
        · rename_i huse
          split at h
          · cases h
          · rename_i hroom
            refine ⟨c, f, byteAt payload 1, ?_, ?_, huse, Nat.not_lt.1 hroom, (Except.ok.inj h).symm⟩
            · by_contra hne; exact hbusy (.inl hne)
            · by_contra hne; exact hbusy (.inr (by simpa using hne))
    · cases h

/-- An accepted LOAD_DATA (R146, R147). -/
theorem loadData_ok {payload : List Byte} {s t : State} (h : loadData payload s = .ok t) :
    ∃ c, (s.pictures.channel c).state = .opened ∧
      4 * (s.pictures.channel c).completes (payload.drop 8) ≤ 4096 - 4 * (s.pictures.channel c).buffer.length ∧
      t = endDrain c (s.setPictures
        { s.pictures.setChannel c ((s.pictures.channel c).take
            (s.setup.tiles.read (s.pictures.channel c).tile.toNat).base.toNat (payload.drop 8)) with
          surplus := bumpBy s.pictures.surplus
            ((payload.drop 8).length - ((s.pictures.channel c).taking (payload.drop 8)).length) }) := by
  unfold loadData at h
  split at h
  · cases h
  · split at h
    · cases h
    · rename_i c _
      simp only at h
      split at h
      · cases h
      · rename_i hopen
        split at h
        · cases h
        · split at h
          · cases h
          · rename_i hroom
            exact ⟨c, by simpa using hopen, Nat.not_lt.1 hroom, (Except.ok.inj h).symm⟩

theorem oneChannel_ok {payload : List Byte} {c : LoadChannel} (h : oneChannel payload = .ok c) :
    payload.length = 1 ∧ channelOfNumber (byteAt payload 0).toNat = some c := by
  unfold oneChannel at h
  split at h
  · cases h
  · rename_i hl
    split at h
    · cases h
    · rename_i d hd
      cases h
      exact ⟨by simpa using hl, hd⟩

/-- An accepted LOAD_END (R151). -/
theorem loadEnd_ok {payload : List Byte} {s t : State} (h : loadEnd payload s = .ok t) :
    ∃ c, (s.pictures.channel c).state = .opened ∧
      t = endDrain c (s.setPictures (s.pictures.setChannel c
        ((s.pictures.channel c).cut (s.setup.tiles.read (s.pictures.channel c).tile.toNat)))) := by
  unfold loadEnd at h
  split at h
  · cases h
  · rename_i c _
    simp only at h
    split at h
    · cases h
    · rename_i hopen
      exact ⟨c, by simpa using hopen, (Except.ok.inj h).symm⟩

/-- An accepted LOAD_ABORT (R152). -/
theorem loadAbort_ok {payload : List Byte} {s t : State} (h : loadAbort payload s = .ok t) :
    t = s ∨ ∃ c, (s.pictures.channel c).state ≠ .idle ∧ t = s.setPictures (s.pictures.abort c) := by
  unfold loadAbort at h
  split at h
  · cases h
  · rename_i c _
    obtain rfl := Except.ok.inj h
    split
    · exact .inl rfl
    · exact .inr ⟨c, by assumption, rfl⟩

/-! ## Status Line Port -/

/-- An accepted SET_NODE (R182). -/
theorem setNode_ok {broadcast : Bool} {payload : List Byte} {s t : State} (h : setNode broadcast payload s = .ok t) :
    ∃ n, broadcast = false ∧ t = s.setPort { s.port with node := n } := by
  unfold setNode at h
  split at h
  · cases h
  · rename_i hb
    split at h
    · cases h
    · split at h
      · cases h
      · exact ⟨_, by simpa using hb, (Except.ok.inj h).symm⟩

/-- An accepted QUERY (R41, R183). -/
theorem query_ok {broadcast : Bool} {payload : List Byte} {s t : State} (h : query broadcast payload s = .ok t) :
    s.port.reply = .idle ∧ (t = acceptQuery .status s ∨ ∃ n, t = acceptRead n s) := by
  unfold query at h
  split at h
  · cases h
  · split at h
    · cases h
    · split at h
      · cases h
      · split at h
        · cases h
        · split at h
          · cases h
          · rename_i hidle
            split at h
            · exact ⟨by simpa using hidle, .inl (Except.ok.inj h).symm⟩
            · exact ⟨by simpa using hidle, .inr ⟨_, (Except.ok.inj h).symm⟩⟩

/-! ## Every owner -/

/-- What the owner of a kind leaves is what the kind's own command leaves; so a property kept by a refusal and by every
accepted packet is kept by the owner. -/
theorem ownerActs_keeps {P : State → Prop} {s : State} (broadcast : Bool) (payload : List Byte)
    (hs : P s)
    (href : ∀ u code kind, P u → P (refuse code kind u))
    (hselect : ∀ t, select payload s = .ok t → P t)
    (hwrite : P (write payload s))
    (hquery : ∀ t, query broadcast payload s = .ok t → P t)
    (hstage : ∀ t, stage payload s = .ok t → P t)
    (hseal : ∀ t, sealBatch payload s = .ok t → P t)
    (hdiscard : P (s.setStager { s.stager with openBatch := [] }))
    (hdrop : P (s.setStager { s.stager with sealed := [] }))
    (hhold : ∀ flag, P (s.setStager { s.stager with hold := flag }))
    (hstatus : ∀ t, statusNow payload s = .ok t → P t)
    (htime : ∀ t, setTime payload s = .ok t → P t)
    (hrestart : ∀ t, groupRestart payload s = .ok t → P t)
    (hopen : ∀ t, loadOpen payload s = .ok t → P t)
    (hdata : ∀ t, loadData payload s = .ok t → P t)
    (hend : ∀ t, loadEnd payload s = .ok t → P t)
    (habort : ∀ t, loadAbort payload s = .ok t → P t)
    (hnode : ∀ t, setNode broadcast payload s = .ok t → P t)
    (hclear : P (clearAllCounters s))
    (hreset : P (softResetBlocks s)) (kind : PacketKind) : P (ownerActs kind broadcast payload s) := by
  have hr := fun code kind => href s code kind hs
  cases kind with
  | write => exact hwrite
  | select => exact settle_keeps (hr · _) hselect
  | query => exact settle_keeps (hr · _) hquery
  | stage => exact settle_keeps (hr · _) hstage
  | sealBatch => exact settle_keeps (hr · _) hseal
  | discardOpen => exact settle_keeps (hr · _) fun t h => by rw [(needsEmpty_ok h).2]; exact hdiscard
  | dropSealed => exact settle_keeps (hr · _) fun t h => by rw [(needsEmpty_ok h).2]; exact hdrop
  | hold => exact settle_keeps (hr · _) fun t h => by rw [(needsEmpty_ok h).2]; exact hhold true
  | release => exact settle_keeps (hr · _) fun t h => by rw [(needsEmpty_ok h).2]; exact hhold false
  | statusNow => exact settle_keeps (hr · _) hstatus
  | setTime => exact settle_keeps (hr · _) htime
  | groupRestart => exact settle_keeps (hr · _) hrestart
  | loadOpen => exact settle_keeps (hr · _) hopen
  | loadData => exact settle_keeps (hr · _) hdata
  | loadEnd => exact settle_keeps (hr · _) hend
  | loadAbort => exact settle_keeps (hr · _) habort
  | setNode => exact settle_keeps (hr · _) hnode
  | clearCounters => exact settle_keeps (hr · _) fun t h => by rw [(needsEmpty_ok h).2]; exact hclear
  | softReset => exact settle_keeps (hr · _) fun t h => by rw [(needsEmpty_ok h).2]; exact hreset

end Sys2Proof.Machine
end

