-- ==== Sys2Proof/Laws/Carrier.lean ====
section
/-! SUPPORT. Carrier lines as the packets they bring: a property that the receiver's own moves and every owner keep is
kept by a whole line. -/

namespace Sys2Proof.Machine

/-- A step of the receiver that hands nothing over changes the receiver alone. -/
theorem checkByte_cases (v : Byte) (s : State) :
    (∃ r, checkByte v s = s.setReceiver r) ∨
    ∃ low r, s.receiver.received = low :: r ∧ leNat [low, v] = s.receiver.check.toNat ∧
      checkByte v s = packetDone (s.setReceiver { s.receiver with received := [low, v] }) := by
  unfold checkByte
  simp only
  split
  · exact .inl ⟨_, rfl⟩
  · rename_i low rest hr
    split
    · exact .inr ⟨low, rest, hr, by assumption, rfl⟩
    · exact .inl ⟨_, rfl⟩

/-- A complete and good packet is ignored, refused as of unknown kind, or handed to its owner (R7, R11, R13, R15). -/
theorem packetDone_cases (s : State) :
    packetDone s = s.setReceiver { s.receiver with assembly := .hunt } ∨
    ∃ u, u = s.setReceiver { s.receiver with assembly := .hunt, accepted := bump s.receiver.accepted } ∧
      ((∃ code, packetDone s = refuseKind .badKind code u) ∨
        ∃ kind broadcast, packetDone s = ownerActs kind broadcast (s.receiver.buffer.drop 4) u) := by
  unfold packetDone
  simp only
  split
  · refine .inr ⟨_, rfl, ?_⟩
    unfold handOver
    split
    · exact .inl ⟨_, rfl⟩
    · exact .inr ⟨_, _, rfl⟩
  · exact .inl rfl

/-- A symbol moves the receiver alone, or completes a good packet (R2 to R9). -/
theorem takeSymbol_cases (s : State) (p : Rgb) :
    (∃ r, takeSymbol s p = s.setReceiver r) ∨
    ∃ bytes, takeSymbol s p = packetDone (s.setReceiver { s.receiver with received := bytes }) := by
  unfold takeSymbol
  split
  · rename_i v _
    unfold dataSymbol
    split
    · exact .inl ⟨s.receiver, rfl⟩
    · exact .inl ⟨_, rfl⟩
    · exact .inl ⟨_, rfl⟩
    · rcases checkByte_cases v s with h | ⟨low, _, _, _, h⟩
      · exact .inl h
      · exact .inr ⟨_, h⟩
  · exact .inl ⟨_, rfl⟩
  · exact .inl ⟨s.receiver, rfl⟩
  · exact .inl ⟨_, rfl⟩

/-- A property that every replacement of the receiver keeps, and every owner's act, is kept by a symbol. -/
theorem takeSymbol_keeps {P : State → Prop} (hrec : ∀ s r, P s → P (s.setReceiver r))
    (howner : ∀ kind broadcast payload s, P s → P (ownerActs kind broadcast payload s)) (s : State) (p : Rgb) (h : P s) :
    P (takeSymbol s p) := by
  rcases takeSymbol_cases s p with ⟨r, e⟩ | ⟨bytes, e⟩
  · rw [e]; exact hrec _ _ h
  · rw [e]
    rcases packetDone_cases (s.setReceiver { s.receiver with received := bytes }) with e | ⟨u, rfl, ⟨code, e⟩ | ⟨k, b, e⟩⟩
    · rw [e]; exact hrec _ _ (hrec _ _ h)
    · rw [e]; exact hrec _ _ (hrec _ _ (hrec _ _ h))
    · rw [e]; exact howner _ _ _ _ (hrec _ _ (hrec _ _ h))

/-- A property that every replacement of the receiver keeps, and counting a blanking line, and every owner's act, is kept
by a carrier line (R1 to R15). -/
theorem carrierLine_keeps {P : State → Prop} (hrec : ∀ s r, P s → P (s.setReceiver r))
    (hcount : ∀ s, P s → P (countBlankingLine s))
    (howner : ∀ kind broadcast payload s, P s → P (ownerActs kind broadcast payload s))
    {pixels : List Rgb} {s t : State} (h : P s) (ht : execCarrierLine pixels s = .next t) : P t := by
  have fold : ∀ (l : List Rgb) (u : State), P u → P (l.foldl takeSymbol u) := by
    intro l
    induction l with
    | nil => exact fun u hu => hu
    | cons p l ih => exact fun u hu => ih _ (takeSymbol_keeps hrec howner u p hu)
  unfold execCarrierLine at ht
  cases ht
  split
  · split
    · exact fold _ _ (hcount _ h)
    · exact hcount _ h
  · exact h

end Sys2Proof.Machine
end

