-- ==== Sys2Proof/Laws/Loading.lean ====
section
/-! SUPPORT. The load channels: reading one back, the words a load forms, and everything the end of a drain and a stalled
load can do. -/

namespace Sys2Proof.Machine

/-! ## Channels of the Picture Loader -/

section
variable (p : Pictures) (c : LoadChannel) (x : Channel)

@[simp] theorem Pictures.channel_setChannel : (p.setChannel c x).channel c = x := by cases c <;> rfl
@[simp] theorem Pictures.channel_setChannel_other :
    (p.setChannel c x).channel (otherChannel c) = p.channel (otherChannel c) := by cases c <;> rfl
@[simp] theorem Pictures.setChannel_directory : (p.setChannel c x).directory = p.directory := by cases c <;> rfl
@[simp] theorem Pictures.setChannel_stalls : (p.setChannel c x).stalls = p.stalls := by cases c <;> rfl
@[simp] theorem Pictures.setChannel_surplus : (p.setChannel c x).surplus = p.surplus := by cases c <;> rfl
@[simp] theorem Pictures.setChannel_twice (y : Channel) : (p.setChannel c x).setChannel c y = p.setChannel c y := by
  cases c <;> rfl
@[simp] theorem Pictures.channel_setTile (t : Byte) (r : TileRecord) : (p.setTile t r).channel c = p.channel c := by
  cases c <;> rfl
theorem Pictures.setTile_setChannel (t : Byte) (r : TileRecord) :
    (p.setChannel c x).setTile t r = (p.setTile t r).setChannel c x := by cases c <;> rfl

end

/-! ## Pixels -/

theorem SourceFormat.bytesPerPixel_pos (f : SourceFormat) : 0 < f.bytesPerPixel ∧ f.bytesPerPixel ≤ 4 := by
  cases f <;> simp [SourceFormat.bytesPerPixel]

theorem formWords_length (f : SourceFormat) (base k : Nat) (l : List (List Byte)) :
    (formWords f base k l).length = l.length := by
  induction l generalizing k with
  | nil => rfl
  | cons _ l ih => simp [formWords, ih]

/-- The words that a list of complete pixels gives, by their place in the list (R147, R148). -/
theorem formWords_eq (f : SourceFormat) (base k : Nat) (l : List (List Byte)) :
    formWords f base k l =
      (List.range l.length).map fun j => BufferedWord.mk (base + 4 * (k + j)) (expandPixel f (l.getD j [])) := by
  induction l generalizing k with
  | nil => rfl
  | cons _ l ih =>
    simp only [formWords, ih, List.length_cons, List.range_succ_eq_map, List.map_cons, List.map_map]
    refine congrArg₂ _ rfl (List.map_congr_left fun j _ => ?_)
    simp [Nat.add_assoc, Nat.add_comm 1]

/-- One of the consecutive chunks of a payload. -/
theorem chunks_getD (n k : Nat) (l : List Byte) {j : Nat} (h : j < k) :
    (chunks n k l).getD j [] = (l.drop (j * n)).take n := by
  induction k generalizing l j with
  | zero => omega
  | succ k ih =>
    cases j with
    | zero => simp [chunks]
    | succ j =>
      have := ih (l.drop n) (j := j) (by omega)
      simp only [chunks, List.getD_cons_succ, this, List.drop_drop]
      congr 2
      rw [Nat.add_mul]
      omega

/-- The bytes left loose after a LOAD_DATA are what the bytes received so far leave of a pixel (R147). -/
theorem Channel.take_holding_length {x : Channel} (base : Nat) (data : List Byte)
    (h : x.holding.length = x.received % x.format.bytesPerPixel) :
    (x.take base data).holding.length = (x.take base data).received % x.format.bytesPerPixel := by
  have hl : (x.loose data).length = x.received % x.format.bytesPerPixel + (x.taking data).length := by
    simp [Channel.loose, h]
  have hm : (x.loose data).length % x.format.bytesPerPixel =
      (x.received + (x.taking data).length) % x.format.bytesPerPixel := by rw [hl]; simp [Nat.add_mod]
  have hd := Nat.div_add_mod (x.loose data).length x.format.bytesPerPixel
  rw [Nat.mul_comm] at hd
  simp only [Channel.take, Channel.completes, List.length_drop]
  omega

/-! ## The end of a drain (R150) and a stalled load (R153) -/

/-- A drain that ends puts the tile and the channel in their final states; otherwise nothing changes (R150). -/
theorem endDrain_cases (c : LoadChannel) (s : State) :
    ((s.pictures.channel c).state = .ending ∧ (s.pictures.channel c).buffer = [] ∧
      endDrain c s = s.setPictures
        ((s.pictures.setTile (s.pictures.channel c).tile
          (drainedRecord (s.pictures.channel c).endRows
            (s.setup.tiles.read (s.pictures.channel c).tile.toNat).height.toNat)).setChannel c
          (s.pictures.channel c).retire)) ∨
    (((s.pictures.channel c).state ≠ .ending ∨ (s.pictures.channel c).buffer ≠ []) ∧ endDrain c s = s) := by
  unfold endDrain
  simp only
  split
  · rename_i h
    exact .inl ⟨h.1, h.2, rfl⟩
  · rename_i h
    exact .inr ⟨by by_contra hc; push Not at hc; exact h hc, rfl⟩

/-- The end of a drain changes the Picture Loader and nothing else. -/
theorem endDrain_eq (c : LoadChannel) (s : State) : endDrain c s = s.setPictures (endDrain c s).pictures := by
  rcases endDrain_cases c s with ⟨_, _, e⟩ | ⟨_, e⟩ <;> rw [e] <;> rfl

/-- The record a drain leaves, by its end rows (R150, R151). -/
theorem drainedRecord_eq (endRows : Option Nat) (height : Nat) :
    drainedRecord endRows height = if endRows = some 0 then ⟨.empty, 0⟩ else ⟨.ready, endRows.getD height⟩ := by
  unfold drainedRecord
  split <;> simp [TileRecord.initial]

theorem drainedRecord_not_loading (endRows : Option Nat) (height : Nat) :
    (drainedRecord endRows height).state ≠ .loading := by
  rw [drainedRecord_eq]
  split <;> simp

/-- A stalled load is aborted and counted; any other channel is left as it was (R153). -/
theorem stallOut_cases (c : LoadChannel) (p : Pictures) :
    ((p.channel c).state = .opened ∧ 120 ≤ (p.channel c).stall ∧
      stallOut c p = { p.abort c with stalls := bump p.stalls }) ∨
    (((p.channel c).state ≠ .opened ∨ (p.channel c).stall < 120) ∧ stallOut c p = p) := by
  unfold stallOut
  simp only
  split
  · rename_i h
    exact .inl ⟨h.1, h.2, rfl⟩
  · rename_i h
    exact .inr ⟨by by_contra hc; push Not at hc; exact h hc, rfl⟩

/-- A boundary counts on a channel in OPEN and leaves the rest of it (R153). -/
theorem Channel.countBoundary_cases (x : Channel) :
    (x.state = .opened ∧ x.countBoundary = { x with stall := x.stall + 1 }) ∨
    (x.state ≠ .opened ∧ x.countBoundary = x) := by
  unfold Channel.countBoundary
  split
  · exact .inl ⟨by assumption, rfl⟩
  · exact .inr ⟨by assumption, rfl⟩

end Sys2Proof.Machine
end

