-- ==== Sys2Proof/Laws/Fetching.lean ====
section
/-! SUPPORT. Grants: who is granted, what a window counts, and everything a GRANT can do. -/

namespace Sys2Proof.Machine

/-- A channel asks when its front burst is whole, or, in ENDING, when it holds any word (R149, R166). -/
theorem Channel.asks_iff (x : Channel) : x.asks = true ↔
    (x.state = .opened ∧ (frontWords x.buffer).length = 8) ∨ (x.state = .ending ∧ x.buffer ≠ []) := by
  unfold Channel.asks
  cases x.state <;> simp

/-- A grant of the Fetch Unit comes only while it has a burst pending (R166). -/
theorem grantee_fetchUnit {s : State} (h : grantee s = some .fetchUnit) : s.fetch.fetching = true := by
  simp only [grantee] at h
  generalize askingChannel s.pictures = a at h
  generalize decide ((s.arbiter.window s.setup.canvas).channelGrants < (s.arbiter.window s.setup.canvas).share) = b at h
  cases hf : s.fetch.fetching
  · rw [hf] at h
    cases a <;> cases b <;> simp [chooseRequester] at h
  · rfl

/-- A grant of a channel comes only while that channel asks (R166). -/
theorem grantee_channel {s : State} {c : LoadChannel} (h : grantee s = some (.channel c)) :
    (s.pictures.channel c).asks = true := by
  have ha : askingChannel s.pictures = some c := by
    simp only [grantee] at h
    generalize askingChannel s.pictures = a at h
    generalize decide ((s.arbiter.window s.setup.canvas).channelGrants < (s.arbiter.window s.setup.canvas).share) = b at h
    generalize s.fetch.fetching = f at h
    cases f <;> cases a <;> cases b <;> simp_all [chooseRequester]
  unfold askingChannel at ha
  split at ha
  · cases ha; assumption
  · split at ha
    · cases ha; assumption
    · cases ha

/-- The window after a grant of the Fetch Unit (R167). -/
theorem windowAfter_fetchUnit (s : State) :
    (s.arbiter.window s.setup.canvas).count .fetchUnit = windowAfter s false := by
  simp only [windowAfter, Arbiter.window, Arbiter.count, Arbiter.close]
  split <;> rename_i h
  · simp [h]
  · simp

/-- The window after a grant of a load channel (R167). -/
theorem windowAfter_channel (s : State) (c : LoadChannel) :
    (s.arbiter.window s.setup.canvas).count (.channel c) = windowAfter s true := by
  simp only [windowAfter, Arbiter.window, Arbiter.count, Arbiter.close]
  split <;> rename_i h
  · simp [h]
  · simp

/-- The words of a buffer are its front burst and what stands behind it, in order (R149). -/
theorem frontWords_append (l : List BufferedWord) : frontWords l ++ behindFront l = l := by
  cases l with
  | nil => rfl
  | cons w rest => simp [frontWords, behindFront, List.takeWhile_append_dropWhile]

/-- Everything a GRANT can do (R149, R161, R164, R165, R166): give no grant; read a burst for the entry at the head; write
the front burst of a channel; or meet an address outside picture memory. -/
theorem execGrant_cases (check : ReadCheck) (s : State) :
    (grantee s = none ∧ exec (.grant check) s = .next s) ∨
    (grantee s = some .fetchUnit ∧
      exec (.grant check) s = readBurst check (s.setArbiter (windowAfter s false))) ∨
    ∃ c, grantee s = some (.channel c) ∧
      exec (.grant check) s = writeBurst c (s.setArbiter (windowAfter s true)) := by
  cases h : grantee s with
  | none => exact .inl ⟨rfl, by simp [exec, execGrant, h]⟩
  | some r =>
    cases r with
    | fetchUnit => exact .inr (.inl ⟨rfl, by simp [exec, execGrant, h, windowAfter_fetchUnit]⟩)
    | channel c => exact .inr (.inr ⟨c, rfl, by simp [exec, execGrant, h, windowAfter_channel]⟩)

/-- Everything a burst read can do (R161, R164, R165). -/
theorem readBurst_cases (found : ReadCheck) (s : State) :
    (s.fetch.todo = [] ∧ readBurst found s = .next (s.setFetch s.fetch.finishLine)) ∨
    ∃ e rest, s.fetch.todo = e :: rest ∧
      ((memoryBytes ≤ e.nextBurst * 32 ∧ readBurst found s = .fault (.pictureAddress (e.nextBurst * 32))) ∨
      (e.nextBurst * 32 < memoryBytes ∧
        ((s.memory.check e.nextBurst found = .clean ∧
          readBurst found s = .next (s.setFetch (s.fetch.takeBurst s.memory e rest))) ∨
        (s.memory.check e.nextBurst found = .oneBit ∧ readBurst found s = .next
          ((s.setMemory { s.memory with oneBitBursts := s.memory.oneBitBursts.write e.nextBurst true }).setFetch
            (Fetch.takeBurst { s.fetch with corrected := bump s.fetch.corrected } s.memory e rest))) ∨
        (s.memory.check e.nextBurst found = .manyBits ∧ readBurst found s = .next
          ((s.setFetch (s.fetch.abandonEntry e rest)).setPictures (s.pictures.reportFault e.tile)))))) := by
  unfold readBurst
  split
  · exact .inl ⟨by assumption, rfl⟩
  · rename_i e rest ht
    refine .inr ⟨e, rest, ht, ?_⟩
    split
    · exact .inl ⟨by assumption, rfl⟩
    · refine .inr ⟨by omega, ?_⟩
      simp only
      cases hc : s.memory.check e.nextBurst found with
      | clean => exact .inl ⟨rfl, rfl⟩
      | oneBit => exact .inr (.inl ⟨rfl, rfl⟩)
      | manyBits => exact .inr (.inr ⟨rfl, rfl⟩)

/-- Everything a burst write can do (R149, R150). -/
theorem writeBurst_cases (c : LoadChannel) (s : State) :
    ((s.pictures.channel c).buffer = [] ∧ writeBurst c s = .next s) ∨
    ∃ w rest, (s.pictures.channel c).buffer = w :: rest ∧
      ((memoryBytes ≤ w.burst * 32 ∧ writeBurst c s = .fault (.pictureAddress (w.burst * 32))) ∨
      (w.burst * 32 < memoryBytes ∧ writeBurst c s = .next (endDrain c
        ((s.setMemory (s.memory.writeBurst w.burst
          (burstBytes (frontWords (s.pictures.channel c).buffer) w.burst))).setPictures
          (s.pictures.setChannel c
            { s.pictures.channel c with buffer := behindFront (s.pictures.channel c).buffer }))))) := by
  unfold writeBurst
  simp only
  cases hb : (s.pictures.channel c).buffer with
  | nil => exact .inl ⟨rfl, rfl⟩
  | cons w rest =>
    refine .inr ⟨w, rest, rfl, ?_⟩
    simp only
    split
    · exact .inl ⟨by assumption, rfl⟩
    · exact .inr ⟨by omega, rfl⟩

@[simp] theorem burstBytes_length (words : List BufferedWord) (burst : Nat) : (burstBytes words burst).length = 32 := by
  simp [burstBytes, burstWords, wordBytes, List.range_succ]

/-- Reading a byte after a burst write: the written byte inside the burst, the old one elsewhere (R138, R139). -/
theorem PictureMemory.read_writeBurst (m : PictureMemory) (burst a : Nat) (bytes : List Byte) :
    (m.writeBurst burst bytes).read a = (m.writeBytes (burst * 32) bytes).read a := rfl

/-- A burst write keeps picture memory in its canonical form. -/
theorem PictureMemory.wf_writeBurst {m : PictureMemory} (burst : Nat) (bytes : List Byte) (h : m.wf = true) :
    (m.writeBurst burst bytes).wf = true := by
  have hw := PictureMemory.wf_writeBytes (burst * 32) bytes h
  simp only [PictureMemory.wf, Bool.and_eq_true] at h hw ⊢
  exact ⟨hw.1, Table.wf_write _ _ h.2⟩

/-- A burst read keeps picture memory in its canonical form. -/
theorem PictureMemory.wf_afterRead {m : PictureMemory} (burst : Nat) (found : ReadCheck) (h : m.wf = true) :
    (m.afterRead burst found).wf = true := by
  unfold PictureMemory.afterRead
  split
  · simp only [PictureMemory.wf, Bool.and_eq_true] at h ⊢
    exact ⟨h.1, Table.wf_write _ _ h.2⟩
  · exact h

/-- Picture memory right after power-on is in its canonical form. -/
theorem reset_memory_wf : State.reset.memory.wf = true := rfl

end Sys2Proof.Machine
end

