-- ==== Sys2Proof/Laws/Frames.lean ====
section
/-! SUPPORT. What the output of a canvas line, the end of a handover wait and the readings of the status line can do. -/

namespace Sys2Proof.Machine

/-- Everything LINE_OUTPUT_START can do: the due line is composed and the next fetch begun, a line of a blanked frame
goes by, or nothing happens (R31, R160, R171). -/
theorem execLineOutputStart_cases (input : List Rgb) (s : State) :
    (lineCanStart s s.compositor.lines.length = true ∧ execLineOutputStart input s =
      .next (fetchLine (s.compositor.lines.length + 1) (composeLine input (startStore s)))) ∨
    (blankLineIsDue s = true ∧ execLineOutputStart input s = .next (passBlankLine s)) ∨
    execLineOutputStart input s = .next s := by
  unfold execLineOutputStart
  split
  · exact .inl ⟨by assumption, rfl⟩
  · split
    · exact .inr (.inl ⟨by assumption, rfl⟩)
    · exact .inr (.inr rfl)

/-- A line of a blanked frame leaves everything but the list of lines (R31). -/
theorem passBlankLine_eq (s : State) : passBlankLine s =
    { s with compositor := { s.compositor with lines := s.compositor.lines ++ [[]] } } := rfl

/-- Composing a line leaves everything but the Compositor's lines and input pixels (R171). -/
theorem composeLine_eq (input : List Rgb) (s : State) :
    composeLine input s = s.setCompositor (composeLine input s).compositor := by
  unfold composeLine; split <;> rfl

/-- A line can start only in a frame that is latched, not blanked, with its records complete and the line in its canvas
(R119, R160, R171). -/
theorem lineCanStart_latch {s : State} {y : Nat} (h : lineCanStart s y = true) :
    ∃ l, s.compositor.latch = some l ∧ s.compositor.blanked = false ∧ s.engine.computing = false ∧ y < l.height ∧
      lineIsDue s y = true := by
  unfold lineCanStart at h
  split at h
  · cases h
  · rename_i l hl
    simp only [Bool.and_eq_true, Bool.not_eq_true', decide_eq_true_eq] at h
    exact ⟨l, hl, h.1.1.1, h.1.1.2, h.1.2, h.2⟩

/-- A line of a blanked frame is due only in a latched frame that has the blanked mark, within its canvas (R31). -/
theorem blankLineIsDue_latch {s : State} (h : blankLineIsDue s = true) :
    ∃ l, s.compositor.latch = some l ∧ s.compositor.blanked = true ∧ s.compositor.lines.length < l.height ∧
      lineIsDue s s.compositor.lines.length = true := by
  unfold blankLineIsDue at h
  split at h
  · cases h
  · rename_i l hl
    simp only [Bool.and_eq_true, decide_eq_true_eq] at h
    exact ⟨l, hl, h.1.1, h.1.2, h.2⟩

/-- Everything REPLY_START can do: nothing, start the reply, or count the readings due (R184). -/
theorem execReplyStart_cases (readings : List Bool) (s : State) :
    execReplyStart readings s = .next s ∨
    ∃ node content deadline quiet readAt, s.timing.inReset = false ∧
      s.port.reply = .waiting node content deadline quiet readAt ∧
      ((20 ≤ countQuiet quiet (readingsDue s readAt readings) ∧ s.now ≤ deadline ∧
          execReplyStart readings s = .next (startReply node content s)) ∨
        execReplyStart readings s = .next (s.setPort { s.port with
          reply := .waiting node content deadline (countQuiet quiet (readingsDue s readAt readings))
            (readAt + 2 * (readingsDue s readAt readings).length) })) := by
  unfold execReplyStart
  split
  · exact .inl rfl
  · rename_i hr
    unfold countReadings
    split
    · rename_i node content deadline quiet readAt hw
      refine .inr ⟨node, content, deadline, quiet, readAt, by simpa using hr, hw, ?_⟩
      simp only
      split
      · rename_i h
        exact .inl ⟨h.1, h.2, rfl⟩
      · exact .inr rfl
    · exact .inl rfl

end Sys2Proof.Machine
end

