-- ==== Sys2Proof/Laws/PerInstr.lean ====
section
/-! SUPPORT. Statements made once for each command: which rows are packets, and that the dispatch table makes of such a
packet the row's own command. -/

namespace Sys2Proof.Laws.PacketRow

open Sys2Proof.Machine

/-- The packet whose arrival a row is: its kind, its broadcast mark where the row carries one, and its payload; none for
a row that is no packet of the nineteen kinds (R13). -/
def packet : Instr → Option (PacketKind × Bool × List Byte)
  | .powerOn _ => none
  | .boardReset _ => none
  | .resetComplete => none
  | .carrierLine _ => none
  | .firstActiveLine _ => none
  | .badKind _ => none
  | .select payload => some (.select, false, payload)
  | .write payload => some (.write, false, payload)
  | .queryStatus broadcast payload => some (.query, broadcast, payload)
  | .queryRead broadcast payload => some (.query, broadcast, payload)
  | .stage payload => some (.stage, false, payload)
  | .sealBatch payload => some (.sealBatch, false, payload)
  | .discardOpen payload => some (.discardOpen, false, payload)
  | .dropSealed payload => some (.dropSealed, false, payload)
  | .hold payload => some (.hold, false, payload)
  | .release payload => some (.release, false, payload)
  | .statusNow payload => some (.statusNow, false, payload)
  | .setTime payload => some (.setTime, false, payload)
  | .groupRestart payload => some (.groupRestart, false, payload)
  | .loadOpen payload => some (.loadOpen, false, payload)
  | .loadData payload => some (.loadData, false, payload)
  | .loadEnd payload => some (.loadEnd, false, payload)
  | .loadAbort payload => some (.loadAbort, false, payload)
  | .setNode broadcast payload => some (.setNode, broadcast, payload)
  | .clearCounters payload => some (.clearCounters, false, payload)
  | .softReset payload => some (.softReset, false, payload)
  | .inputFrameStart _ _ => none
  | .inputTimeout => none
  | .generatorFrameEnd => none
  | .groupStep _ => none
  | .stallAbort _ => none
  | .completionEvent => none
  | .lineOutputStart _ => none
  | .lineFetchComplete => none
  | .grant _ => none
  | .windowClose => none
  | .drainEnd _ => none
  | .replyStart _ => none
  | .replyTimeout => none
  | .collision => none
  | .replyEnd => none
  | .clockAdvance _ => none

/-- A well-formed packet row holds a payload the receiver passes, and is the command that the dispatch table makes of its
packet (R4, R13, R183). -/
def Statement (i : Instr) : Prop :=
  ∀ kind broadcast payload, packet i = some (kind, broadcast, payload) → i.wellFormed = true →
    payload.length ≤ 1024 ∧ packetCommand kind broadcast payload = i

theorem powerOn (straps : Fin 8) : Statement (.powerOn straps) := by
  rintro _ _ _ ⟨⟩

theorem boardReset (straps : Fin 8) : Statement (.boardReset straps) := by
  rintro _ _ _ ⟨⟩

theorem resetComplete : Statement .resetComplete := by
  rintro _ _ _ ⟨⟩

theorem carrierLine (pixels : List Rgb) : Statement (.carrierLine pixels) := by
  rintro _ _ _ ⟨⟩

theorem firstActiveLine (width : Nat) : Statement (.firstActiveLine width) := by
  rintro _ _ _ ⟨⟩

theorem badKind (kind : Byte) : Statement (.badKind kind) := by
  rintro _ _ _ ⟨⟩

theorem select (payload : List Byte) : Statement (.select payload) := by
  rintro _ _ _ ⟨⟩ h
  exact ⟨by simpa [Instr.wellFormed, payloadFits] using h, rfl⟩

theorem write (payload : List Byte) : Statement (.write payload) := by
  rintro _ _ _ ⟨⟩ h
  exact ⟨by simpa [Instr.wellFormed, payloadFits] using h, rfl⟩

theorem queryStatus (broadcast : Bool) (payload : List Byte) : Statement (.queryStatus broadcast payload) := by
  rintro _ _ _ ⟨⟩ h
  simp [Instr.wellFormed, payloadFits] at h
  exact ⟨h.1, by simp [packetCommand, h.2]⟩

theorem queryRead (broadcast : Bool) (payload : List Byte) : Statement (.queryRead broadcast payload) := by
  rintro _ _ _ ⟨⟩ h
  simp [Instr.wellFormed, payloadFits] at h
  exact ⟨h.1, by simp [packetCommand, h.2]⟩

theorem stage (payload : List Byte) : Statement (.stage payload) := by
  rintro _ _ _ ⟨⟩ h
  exact ⟨by simpa [Instr.wellFormed, payloadFits] using h, rfl⟩

theorem sealBatch (payload : List Byte) : Statement (.sealBatch payload) := by
  rintro _ _ _ ⟨⟩ h
  exact ⟨by simpa [Instr.wellFormed, payloadFits] using h, rfl⟩

theorem discardOpen (payload : List Byte) : Statement (.discardOpen payload) := by
  rintro _ _ _ ⟨⟩ h
  exact ⟨by simpa [Instr.wellFormed, payloadFits] using h, rfl⟩

theorem dropSealed (payload : List Byte) : Statement (.dropSealed payload) := by
  rintro _ _ _ ⟨⟩ h
  exact ⟨by simpa [Instr.wellFormed, payloadFits] using h, rfl⟩

theorem hold (payload : List Byte) : Statement (.hold payload) := by
  rintro _ _ _ ⟨⟩ h
  exact ⟨by simpa [Instr.wellFormed, payloadFits] using h, rfl⟩

theorem release (payload : List Byte) : Statement (.release payload) := by
  rintro _ _ _ ⟨⟩ h
  exact ⟨by simpa [Instr.wellFormed, payloadFits] using h, rfl⟩

theorem statusNow (payload : List Byte) : Statement (.statusNow payload) := by
  rintro _ _ _ ⟨⟩ h
  exact ⟨by simpa [Instr.wellFormed, payloadFits] using h, rfl⟩

theorem setTime (payload : List Byte) : Statement (.setTime payload) := by
  rintro _ _ _ ⟨⟩ h
  exact ⟨by simpa [Instr.wellFormed, payloadFits] using h, rfl⟩

theorem groupRestart (payload : List Byte) : Statement (.groupRestart payload) := by
  rintro _ _ _ ⟨⟩ h
  exact ⟨by simpa [Instr.wellFormed, payloadFits] using h, rfl⟩

theorem loadOpen (payload : List Byte) : Statement (.loadOpen payload) := by
  rintro _ _ _ ⟨⟩ h
  exact ⟨by simpa [Instr.wellFormed, payloadFits] using h, rfl⟩

theorem loadData (payload : List Byte) : Statement (.loadData payload) := by
  rintro _ _ _ ⟨⟩ h
  exact ⟨by simpa [Instr.wellFormed, payloadFits] using h, rfl⟩

theorem loadEnd (payload : List Byte) : Statement (.loadEnd payload) := by
  rintro _ _ _ ⟨⟩ h
  exact ⟨by simpa [Instr.wellFormed, payloadFits] using h, rfl⟩

theorem loadAbort (payload : List Byte) : Statement (.loadAbort payload) := by
  rintro _ _ _ ⟨⟩ h
  exact ⟨by simpa [Instr.wellFormed, payloadFits] using h, rfl⟩

theorem setNode (broadcast : Bool) (payload : List Byte) : Statement (.setNode broadcast payload) := by
  rintro _ _ _ ⟨⟩ h
  exact ⟨by simpa [Instr.wellFormed, payloadFits] using h, rfl⟩

theorem clearCounters (payload : List Byte) : Statement (.clearCounters payload) := by
  rintro _ _ _ ⟨⟩ h
  exact ⟨by simpa [Instr.wellFormed, payloadFits] using h, rfl⟩

theorem softReset (payload : List Byte) : Statement (.softReset payload) := by
  rintro _ _ _ ⟨⟩ h
  exact ⟨by simpa [Instr.wellFormed, payloadFits] using h, rfl⟩

theorem inputFrameStart (furtherLines waitLines : Nat) : Statement (.inputFrameStart furtherLines waitLines) := by
  rintro _ _ _ ⟨⟩

theorem inputTimeout : Statement .inputTimeout := by
  rintro _ _ _ ⟨⟩

theorem generatorFrameEnd : Statement .generatorFrameEnd := by
  rintro _ _ _ ⟨⟩

theorem groupStep (group : Fin 16) : Statement (.groupStep group) := by
  rintro _ _ _ ⟨⟩

theorem stallAbort (channel : LoadChannel) : Statement (.stallAbort channel) := by
  rintro _ _ _ ⟨⟩

theorem completionEvent : Statement .completionEvent := by
  rintro _ _ _ ⟨⟩

theorem lineOutputStart (input : List Rgb) : Statement (.lineOutputStart input) := by
  rintro _ _ _ ⟨⟩

theorem lineFetchComplete : Statement .lineFetchComplete := by
  rintro _ _ _ ⟨⟩

theorem grant (check : ReadCheck) : Statement (.grant check) := by
  rintro _ _ _ ⟨⟩

theorem windowClose : Statement .windowClose := by
  rintro _ _ _ ⟨⟩

theorem drainEnd (channel : LoadChannel) : Statement (.drainEnd channel) := by
  rintro _ _ _ ⟨⟩

theorem replyStart (readings : List Bool) : Statement (.replyStart readings) := by
  rintro _ _ _ ⟨⟩

theorem replyTimeout : Statement .replyTimeout := by
  rintro _ _ _ ⟨⟩

theorem collision : Statement .collision := by
  rintro _ _ _ ⟨⟩

theorem replyEnd : Statement .replyEnd := by
  rintro _ _ _ ⟨⟩

theorem clockAdvance (micros : Nat) : Statement (.clockAdvance micros) := by
  rintro _ _ _ ⟨⟩

end Sys2Proof.Laws.PacketRow
end

