-- ==== Sys2Proof/Laws/Resets.lean ====
section
/-! SUPPORT. What a soft reset leaves of each block (R16). -/

namespace Sys2Proof.Machine

/-- Cutting the line in output changes the composed lines, and draws a free value, and nothing else (R169, R181). -/
theorem cutLine_eq (l : FrameLatch) (s : State) :
    cutLine l s = (s.setCompositor (cutLine l s).compositor).setFresh (cutLine l s).fresh := by
  unfold cutLine
  split <;> rfl

/-- The Compositor's latch, blanked mark, input pixels and number of composed lines stay through the cut. -/
theorem cutLine_compositor (l : FrameLatch) (s : State) : ∃ lines,
    (cutLine l s).compositor = { s.compositor with lines := lines } ∧ lines.length = s.compositor.lines.length := by
  unfold cutLine
  split
  · exact ⟨_, rfl, rfl⟩
  · rename_i line h
    refine ⟨_, rfl, ?_⟩
    have : s.compositor.lines ≠ [] := by rintro e; simp [e] at h
    have := List.length_pos_iff.2 this
    simp
    omega

/-- What a soft reset does to the frame in progress: at most the composed lines, the free-value number and the Fetch
Unit change (R163, R169). -/
theorem refetch_eq (s : State) : refetch s =
    ((s.setCompositor (refetch s).compositor).setFresh (refetch s).fresh).setFetch (refetch s).fetch := by
  unfold refetch
  split
  · rfl
  · split
    · rfl
    · rename_i l _ _
      rw [fetchLine_eq, cutLine_eq]
      rfl

theorem refetch_compositor (s : State) : ∃ lines,
    (refetch s).compositor = { s.compositor with lines := lines } ∧ lines.length = s.compositor.lines.length := by
  unfold refetch
  split
  · exact ⟨_, rfl, rfl⟩
  · split
    · exact ⟨_, rfl, rfl⟩
    · simpa using cutLine_compositor _ s

/-- The fetch after a soft reset is the abandoned one, or that of the line after the one in output. -/
theorem refetch_fetch (s : State) :
    (refetch s).fetch = s.fetch ∨ ∃ l, (refetch s).fetch = (fetchLine s.compositor.lines.length (cutLine l s)).fetch := by
  unfold refetch
  split
  · exact .inl rfl
  · split
    · exact .inl rfl
    · exact .inr ⟨_, rfl⟩

section
variable (s : State)

@[simp] theorem refetch_now : (refetch s).now = s.now := by rw [refetch_eq]; rfl
@[simp] theorem refetch_receiver : (refetch s).receiver = s.receiver := by rw [refetch_eq]; rfl
@[simp] theorem refetch_timing : (refetch s).timing = s.timing := by rw [refetch_eq]; rfl
@[simp] theorem refetch_setup : (refetch s).setup = s.setup := by rw [refetch_eq]; rfl
@[simp] theorem refetch_live : (refetch s).live = s.live := by rw [refetch_eq]; rfl
@[simp] theorem refetch_stager : (refetch s).stager = s.stager := by rw [refetch_eq]; rfl
@[simp] theorem refetch_timeBase : (refetch s).timeBase = s.timeBase := by rw [refetch_eq]; rfl
@[simp] theorem refetch_engine : (refetch s).engine = s.engine := by rw [refetch_eq]; rfl
@[simp] theorem refetch_pictures : (refetch s).pictures = s.pictures := by rw [refetch_eq]; rfl
@[simp] theorem refetch_memory : (refetch s).memory = s.memory := by rw [refetch_eq]; rfl
@[simp] theorem refetch_arbiter : (refetch s).arbiter = s.arbiter := by rw [refetch_eq]; rfl
@[simp] theorem refetch_port : (refetch s).port = s.port := by rw [refetch_eq]; rfl
@[simp] theorem refetch_pending : (refetch s).pending = s.pending := by rw [refetch_eq]; rfl

@[simp] theorem softResetBlocks_now : (softResetBlocks s).now = s.now := by simp [softResetBlocks]
@[simp] theorem softResetBlocks_receiver : (softResetBlocks s).receiver = s.receiver.softReset := by simp [softResetBlocks]
@[simp] theorem softResetBlocks_timing : (softResetBlocks s).timing = s.timing := by simp [softResetBlocks]
@[simp] theorem softResetBlocks_setup : (softResetBlocks s).setup = { s.setup with cursor := none } := by
  simp [softResetBlocks]
@[simp] theorem softResetBlocks_live : (softResetBlocks s).live = s.live := by simp [softResetBlocks]
@[simp] theorem softResetBlocks_stager : (softResetBlocks s).stager = Stager.initial := by simp [softResetBlocks]
@[simp] theorem softResetBlocks_timeBase : (softResetBlocks s).timeBase = s.timeBase := by simp [softResetBlocks]
@[simp] theorem softResetBlocks_engine : (softResetBlocks s).engine = s.engine := by simp [softResetBlocks]
@[simp] theorem softResetBlocks_pictures : (softResetBlocks s).pictures = s.pictures.reset := by simp [softResetBlocks]
@[simp] theorem softResetBlocks_memory : (softResetBlocks s).memory = s.memory := by simp [softResetBlocks]
@[simp] theorem softResetBlocks_arbiter : (softResetBlocks s).arbiter = Arbiter.initial := by simp [softResetBlocks]
@[simp] theorem softResetBlocks_port : (softResetBlocks s).port = s.port.softReset := by simp [softResetBlocks]
@[simp] theorem softResetBlocks_pending : (softResetBlocks s).pending = s.pending := by simp [softResetBlocks]

/-- The Compositor after a soft reset: only the composed lines may differ, in content and not in number (R181). -/
theorem softResetBlocks_compositor : ∃ lines,
    (softResetBlocks s).compositor = { s.compositor with lines := lines } ∧ lines.length = s.compositor.lines.length :=
  refetch_compositor _

end

end Sys2Proof.Machine
end

