-- ==== Sys2Proof/Tests/Slice0.lean ====
section
/-! SUPPORT. Tests on small states: ill-formed commands are refused, the manual's worked numbers come out, and every
statement's hypotheses are met together by some concrete state and operands. -/

namespace Sys2Proof.Tests

-- One theorem after another: each waits for the kernel, and a thread for each would not fit the check's memory.
set_option Elab.async false

open Sys2Proof Sys2Proof.Machine

/-! ## WellFormed smoke -/

theorem test_long_payload_is_ill_formed : (Instr.stage (List.replicate 1025 0)).wellFormed = false := by decide +kernel
theorem test_full_payload_is_well_formed : (Instr.stage (List.replicate 1024 0)).wellFormed = true := by decide +kernel
theorem test_known_kind_is_no_bad_kind :
    (Instr.badKind 0x16).wellFormed = false ∧ (Instr.badKind 0x7E).wellFormed = true := by decide
theorem test_read_query_is_no_status_query :
    (Instr.queryStatus false [1, 3]).wellFormed = false ∧ (Instr.queryRead false [0]).wellFormed = false := by decide

/-! ## Helpers -/

/-- The state that a result carries, or the state after power-on. -/
def after (r : Result) : State :=
  match r with
  | .next t => t
  | _ => State.reset

/-- The part with some commands run from the state after power-on. -/
def run (s : State) : List Instr → State
  | [] => s
  | c :: rest => run (after (exec c s)) rest

/-- The part with its cursor on an entry. -/
def atEntry (table : TableId) (index : Nat) : State :=
  State.reset.setSetup { Setup.initial with cursor := some ⟨table, index⟩ }

/-- The part with a blanking interval open. -/
def listening : State := State.reset.setReceiver { Receiver.initial with interval := true }

/-- Font A of the worked cases of chapter 07: height 48, every glyph present. -/
def fontA : FontView where
  height := 48
  metrics := ⟨((List.range 10).map fun c => (c, ⟨true, 36, 38⟩)) ++ ((List.range 10).map fun c => (10 + c, ⟨true, 20, 22⟩)) ++
    [(20, ⟨true, 10, 14⟩), (21, ⟨true, 28, 30⟩), (22, ⟨true, 24, 26⟩), (23, ⟨true, 120, 124⟩), (24, ⟨true, 90, 92⟩)]⟩
  font := 0

/-- The schedule of the worked evaluation of chapter 06. -/
def schedule : Table ScheduleEntry.initial :=
  ⟨[(0, ⟨true, 360, 1⟩), (1, ⟨true, 630, 2⟩), (2, ⟨false, 900, 3⟩), (3, ⟨true, 630, 3⟩), (4, ⟨true, 1320, 2⟩)]⟩

/-! ## Worked numbers of the manual -/

/-- Chapter 07, "A discounted price with tax": D 399, the sign dropped, run 3 sep 9 9, 126 pixels wide. -/
theorem test_discounted_price_with_tax :
    let c := computeRun ⟨.two, .before, .inclusive, 825, .charm, .g1, false, false, false⟩
      ⟨.available, .percentOff 200, none, none⟩ (some 449)
    let y := fitRun fontA 150 60 c.2
    c.1 = 399 ∧ c.2.run = [21, 3, 20, 9, 9] ∧ y.run = [3, 20, 9, 9] ∧ y.flags.currencyDropped = true ∧
      fontA.runWidth y.run = 126 := by decide +kernel

/-- Chapter 06, "Worked evaluation: ties, gaps and carry-over". -/
theorem test_dayparts_of_a_day :
    ([6000, 21600, 37799, 37800, 54000, 86399].map fun t => daypartAt schedule (some t)) =
      [some 4, some 0, some 0, some 1, some 1, some 4] ∧ daypartAt schedule none = none := by decide +kernel

/-- Chapter 10, "Worked pixel": fill, dimmed tile and glyph blended over the input pixel. -/
theorem test_worked_pixel :
    let fill := blend 128 ⟨255, 255, 255⟩ ⟨40, 90, 200⟩
    let tile := blend 192 (treatColour (.dim 128) 128 ⟨220, 60, 20⟩) fill
    fill = ⟨148, 173, 228⟩ ∧ tile = ⟨119, 65, 64⟩ ∧ blend 153 ⟨255, 220, 0⟩ tile = ⟨201, 158, 26⟩ ∧
      greyOf ⟨220, 60, 20⟩ = 104 := by decide +kernel

/-- Chapter 03, "Worked sequence: writes at the table end and a clamped read", packets 2, 3 and 6. -/
theorem test_write_at_the_table_end :
    let s := run State.reset [.select [2, 94, 0, 0], .write (List.replicate 100 0)]
    s.setup.cursor = some ⟨.slots, 96⟩ ∧ s.receiver.lastRefusal = some (.tableEnd, 0x02) ∧
      (run s [.select [2, 93, 0, 0], .queryRead false [1, 10]]).setup.cursor = some ⟨.slots, 96⟩ := by decide +kernel

/-- Chapter 03, packet 10: format 0 is written, format 1 has granularity 20. -/
theorem test_bad_granularity :
    let format := fun g : Byte => [2, 1, 0, 0, 0, 0, g, 4]
    let s := run State.reset [.select [3, 0, 0, 0], .write (format 5 ++ format 20 ++ format 10)]
    s.setup.cursor = some ⟨.formats, 1⟩ ∧ s.receiver.lastRefusal = some (.badField, 0x02) ∧
      (s.setup.formats.read 0).granularity = .g5 ∧ (s.setup.formats.read 0).zeroMark = true ∧
      s.setup.formats.read 2 = FormatEntry.initial := by decide +kernel

/-- Chapter 03, R45 and R55: a treatment above 3 and an alignment above 2 are refused. -/
theorem test_slot_fields_out_of_list :
    decodeSlot (List.replicate 22 0 ++ [4] ++ List.replicate 9 0) = none ∧
      decodeSlot (List.replicate 21 0 ++ [3] ++ List.replicate 10 0) = none ∧
      (decodeSlot (List.replicate 22 0 ++ [3] ++ List.replicate 9 0)).isSome = true := by decide +kernel

/-- Chapter 01, "Worked sequence: one interval of mixed traffic", events 1, 4 and 5: a broadcast HOLD is taken, a packet for
another node is not, an unknown kind is refused. -/
theorem test_mixed_traffic :
    let s := run (listening.setPort (Port.initial 2))
      [.carrierLine (packetLine 15 0x14 [] (goodCheck 15 0x14 [])),
       .carrierLine (packetLine 5 0x11 [0] (goodCheck 5 0x11 [0])),
       .carrierLine (packetLine 2 0x7E [] (goodCheck 2 0x7E []))]
    s.stager.hold = true ∧ s.receiver.accepted = 2 ∧ s.receiver.refusals = 1 ∧
      s.receiver.lastRefusal = some (.badKind, 0x7E) := by decide +kernel

/-- Chapter 01, events 2, 3, 6, 7 and 8: a symbol error, a declared length of 2048, a wrong check, and a second START. -/
theorem test_discards :
    let s := run (listening.setPort (Port.initial 2))
      [.carrierLine (markPixels ++ startPixel :: [2, 0x10, 0x20, 0].map dataPixel ++ [⟨0xFF, 0x00, 0x55⟩]),
       .carrierLine (markPixels ++ startPixel :: [2, 0x10, 0x00, 0x08].map dataPixel),
       .carrierLine (packetLine 2 0x12 [] [0, 0]),
       .carrierLine (markPixels ++ startPixel :: [2, 0x16].map dataPixel ++ [startPixel])]
    s.receiver.symbolErrors = 1 ∧ s.receiver.overlength = 1 ∧ s.receiver.badCheck = 1 ∧ s.receiver.aborted = 1 ∧
      s.receiver.accepted = 0 ∧ s.receiver.assembly = .header := by decide +kernel

/-- Chapter 05, "Worked sequence: filling and emptying the pool", in small: a sealed batch keeps its records, an empty open
batch is refused, DROP_SEALED frees all. -/
theorem test_pool :
    let r := encodeChange (.price 0 5 (some 499))
    let s := run State.reset [.stage (r ++ r), .sealBatch [0xB0, 0x9A, 0, 0], .sealBatch [255, 255, 255, 255]]
    s.stager.free = 126 ∧ s.stager.sealed.map Batch.tag = [some 39600] ∧
      s.receiver.lastRefusal = some (.emptyBatch, 0x11) ∧ (run s [.dropSealed []]).stager.free = 128 := by decide +kernel

/-- Chapter 09, "Worked sequence: a window of grants", grants 4 to 16: with the share of 4 used up the Fetch Unit is
granted, and the sixteenth grant closes the window. -/
theorem test_window :
    chooseRequester true (some .b) (decide (3 < 4)) = some (.channel .b) ∧
      chooseRequester true (some .b) (decide (4 < 4)) = some .fetchUnit ∧
      (Arbiter.count ⟨15, 4, 4⟩ .fetchUnit) = ⟨0, 0, 4⟩ ∧ (Arbiter.count ⟨14, 4, 4⟩ .fetchUnit) = ⟨15, 4, 4⟩ := by decide

/-- R185 and R6: the reply frame of an empty READ at node 3, from its low check byte on, ends with the check of its first
three bytes. -/
theorem test_empty_read_reply :
    replyFrame 3 0x02 [] = [3, 2, 0] ++ word16Bytes (crc [3, 2, 0]) ∧
      crc ([3, 2, 0] ++ (word16Bytes (crc [3, 2, 0])).reverse) = 0 := by decide +kernel

/-- R148: the three source formats. -/
theorem test_pixels :
    expandPixel .rgb888 [1, 2, 3] = ⟨1, 2, 3, 255⟩ ∧ expandPixel .rgba8888 [1, 2, 3, 4] = ⟨1, 2, 3, 4⟩ ∧
      expandPixel .rgb565 [0x00, 0xF8] = ⟨255, 0, 0, 255⟩ := by decide

/-! ## Witnesses: the properties that every step keeps

`busy` is a part at work: acquiring the input with a packet in assembly, a load on channel A, one slot that shows a READY
tile whose line is being fetched, a window of grants open, a clock that is SET, and a command waiting. -/

/-- The frame record of the slot that `busy` shows. -/
def shown : RenderRecord := { RenderRecord.initial with visible := true, tile := some 7, run := [22] }

/-- The fetch entry of that slot on a line. -/
def pendingEntry : FetchEntry := ⟨0, 7, 0, 0, 0, 0, 0, 4, 0⟩

/-- A channel that has taken two of the three bytes of a one-pixel picture. -/
def loadingChannel : Channel := ⟨.opened, 5, .rgb888, 3, 2, [9, 9], [], 119, none⟩

/-- The part at work. -/
def busy : State where
  now := 100
  fresh := 0
  receiver := { Receiver.initial with interval := true, assembly := .header, buffer := [5], check := crc [5] }
  timing :=
    { Timing.initial with
      inReset := false, lock := .acquiring, current := some ⟨0, 0, 0, 3⟩, timeout := some 33334
      generatorFrame := some ⟨16667, 1080⟩ }
  setup := { Setup.initial with cursor := some ⟨.slots, 96⟩ }
  live := Live.initial
  stager := ⟨[.price 0 0 (some 499)], [⟨[.price 0 1 none], some 39600⟩], [(3, .soldOut)], true⟩
  timeBase := { TimeBase.initial with clockSet := true, seconds := 86399, micros := 999999 }
  engine := ⟨none, false, ⟨[(0, shown)]⟩, ⟨[(0, shown)]⟩⟩
  pictures := ⟨⟨[(5, ⟨.loading, 0⟩), (7, ⟨.ready, 1⟩)]⟩, loadingChannel, Channel.initial, 0, 0⟩
  memory := ⟨[(0, 1), (40, 2)], ⟨[(1, true)]⟩, 1⟩
  fetch :=
    { Fetch.initial with
      tileLatch := ⟨[(7, some 1)]⟩, list := [pendingEntry], todo := [pendingEntry], fetching := true
      filling := [⟨0, 0, [], false⟩] }
  arbiter := ⟨15, 4, 4⟩
  compositor := ⟨some ⟨.noInput, 1920, 1080, Rgb.black, Setup.initial.heads, .empty⟩, false, [], []⟩
  port := Port.initial 3
  pending := [.clockAdvance 1]

theorem busy_steps : ∃ t, step busy = .next t := ⟨_, rfl⟩

theorem read_cases {α : Type} {d : α} (i j : Nat) (v : α) (rest : List (Nat × α)) :
    (Table.mk (d := d) ((j, v) :: rest)).read i = if j = i then v else (Table.mk (d := d) rest).read i := by
  simp only [Table.read, cellsFind]
  split <;> rfl

theorem read_nil {α : Type} {d : α} (i : Nat) : (Table.mk (d := d) []).read i = d := rfl

theorem witness_LoadsStayCoherent : LoadsCoherent busy ∧ ∃ t, step busy = .next t :=
  ⟨⟨by decide +kernel, by decide +kernel,
    ⟨by decide, by decide, by decide, by decide, by decide, by decide, by decide, by decide⟩,
    ⟨by decide, by decide, by decide, by decide, by decide, by decide, by decide, by decide⟩⟩, busy_steps⟩

theorem witness_PicturesStayInMemory : PictureSafe busy ∧ ∃ t, step busy = .next t :=
  ⟨⟨witness_LoadsStayCoherent.1, by decide, by decide +kernel,
    fun t rows h _ => by
      have : t.toNat = 7 ∧ rows = 1 := by
        simp only [busy, read_cases, read_nil, notReady] at h
        split at h
        · exact ⟨by omega, by simpa using h.symm⟩
        · cases h
      rw [this.1, this.2]
      decide +kernel,
    by decide, ⟨by decide, by decide, fun k h => by simp [busy, loadingChannel] at h, by decide⟩,
    ⟨by decide, by decide, fun k h => by simp [busy, Channel.initial] at h, by decide⟩⟩, busy_steps⟩

theorem witness_RecordsStayCoherent : RecordsCoherent busy ∧ ∃ t, step busy = .next t := by
  have legal : ∀ i, RecordLegal (busy.engine.frame.read i) := fun i => by
    simp only [busy, read_cases, read_nil]
    split <;> exact ⟨by decide, by decide, by decide⟩
  exact ⟨⟨legal, legal, by decide +kernel, ⟨0, by decide +kernel⟩, fun _ _ _ => rfl, by decide⟩, busy_steps⟩

theorem witness_FetchStaysBounded : FetchBounded busy ∧ ∃ t, step busy = .next t :=
  ⟨⟨by decide, by decide, by decide, by decide, by decide, by decide, by decide, by decide⟩, busy_steps⟩

theorem witness_StagerClockGroupsKept :
    PoolBounded busy ∧ ClockLegal busy ∧ GroupsLegal busy ∧ ∃ t, step busy = .next t :=
  ⟨⟨by decide, by decide, by decide⟩, ⟨by decide, by decide, by decide⟩,
    ⟨fun _ => (by decide : 1 ≤ GroupEntry.initial.count ∧ GroupEntry.initial.count ≤ 8),
      fun _ => (by decide : 1 ≤ GroupEntry.initial.dwell.toNat),
      fun _ => (by decide : GroupRun.initial.index < GroupEntry.initial.count),
      fun _ => (by decide : GroupRun.initial.count < GroupEntry.initial.dwell.toNat)⟩, busy_steps⟩

theorem witness_TimingStaysCoherent : TimingCoherent busy ∧ ∃ t, step busy = .next t :=
  ⟨⟨by decide, by decide, rfl, rfl, by decide, by decide, by decide, fun p h => by simp [busy, Timing.initial] at h,
    by decide, by decide⟩, busy_steps⟩

theorem witness_ReceiverStaysLegal : ReceiverLegal busy ∧ ∃ t, step busy = .next t :=
  ⟨⟨by decide, by decide, fun _ => rfl, by decide, fun h => by simp [busy] at h, fun h => by simp [busy] at h⟩, busy_steps⟩

theorem witness_SetupStaysLegal : SetupLegal busy ∧ ∃ t, step busy = .next t := by
  refine ⟨⟨?_, fun i => ?_, fun i => ?_, fun f => ?_, fun k => ?_, fun g => ?_, fun i => ?_, fun c h => ?_⟩, busy_steps⟩
  · unfold within; decide +kernel
  · simp only [busy, Setup.initial, read_cases, read_nil]
    unfold within
    split <;> decide
  · exact (by decide : SlotEntry.initial.pw.toNat ≤ 8191 ∧ SlotEntry.initial.ph.toNat ≤ 8191)
  · exact (by decide : 8 ≤ initialFontHeight.toNat ∧ initialFontHeight.toNat ≤ 96)
  · exact (by decide : (1 ≤ Metric.initial.width.toNat ∧ Metric.initial.width.toNat ≤ 64)
      ∧ 1 ≤ Metric.initial.advance.toNat ∧ Metric.initial.advance.toNat ≤ 80)
  · exact (by decide : (1 ≤ GroupEntry.initial.count ∧ GroupEntry.initial.count ≤ 8) ∧ 1 ≤ GroupEntry.initial.dwell.toNat)
  · exact (by decide : TileEntry.initial.base.toNat % 256 = 0 ∧ TileEntry.initial.base.toNat < memoryBytes
      ∧ (1 ≤ TileEntry.initial.width.toNat ∧ TileEntry.initial.width.toNat ≤ 1024)
      ∧ 1 ≤ TileEntry.initial.height.toNat ∧ TileEntry.initial.height.toNat ≤ 1024)
  · cases h; decide

theorem witness_CanonicalFormKept : Canonical busy ∧ ∃ t, step busy = .next t :=
  ⟨⟨rfl, rfl, rfl, rfl, rfl, rfl, rfl, rfl, rfl, rfl, rfl, rfl, rfl, rfl, by decide +kernel, by decide +kernel,
    fun p h => (by simp [busy] at h), rfl, by decide +kernel, rfl, fun l h => (by cases h; exact ⟨rfl, rfl⟩)⟩, busy_steps⟩

/-! ## Witnesses: the queue, the whole part, the resets -/

/-- A part whose next burst to read would lie outside picture memory. -/
def outside : State := busy.setFetch { busy.fetch with todo := [{ pendingEntry with nextBurst := 8388608 }] }

/-- A part whose generator frame has run out, with a status waiting for the boundary. -/
def frameDue : State := busy.setNow 16667

/-- A part that has measured two frames of the canvas's size, and the third but for its further lines. -/
def nearlyLocked : State := busy.setTiming
  { busy.timing with
    measurements := [⟨1920, 1080, 45, 16683⟩, ⟨1920, 1080, 45, 16683⟩], current := some ⟨0, 1920, 1, 45⟩ }

/-- A part that is LOCKED and runs on the input. -/
def locked : State := busy.setTiming
  { busy.timing with
    lock := .locked, measurements := List.replicate 3 ⟨1920, 1080, 45, 16683⟩, current := some ⟨0, 1920, 1, 45⟩
    source := .input, generatorPeriod := some 16683, generatorFrame := none, timeout := some 33366 }

/-- A part whose channel A is ENDING with one word left, in a burst that holds a written byte. -/
def draining : State :=
  (busy.setPictures { busy.pictures with
    channelA := { loadingChannel with state := .ending, received := 3, holding := [], buffer := [⟨32, ⟨1, 2, 3, 4⟩⟩] } }).setFetch
    Fetch.initial

theorem witness_StepTakesFront : busy.pending = [.clockAdvance 1] ∧ State.reset.pending = [] := by decide

theorem witness_CommandsComplete :
    (∃ t, exec (.hold []) busy = .next t) ∧ ∃ f, exec (.grant .clean) outside = .fault f :=
  ⟨⟨_, rfl⟩, ⟨.pictureAddress 268435456, rfl⟩⟩

theorem witness_LiveAndLockChanges :
    (exec .generatorFrameEnd frameDue = .next (after (exec .generatorFrameEnd frameDue)) ∧
      (after (exec .generatorFrameEnd frameDue)).live ≠ frameDue.live) ∧
    ((after (exec (.inputFrameStart 1079 0) nearlyLocked)).timing.lock = .locked ∧ nearlyLocked.timing.lock ≠ .locked) ∧
    (after (exec .inputTimeout (locked.setNow 33366))).timing.lock ≠ .locked ∧ locked.timing.lock = .locked :=
  ⟨⟨rfl, by decide +kernel⟩, by decide +kernel⟩

theorem witness_OnlyBurstsAreWritten :
    exec (.grant .clean) draining = .next (after (exec (.grant .clean) draining)) ∧
      (after (exec (.grant .clean) draining)).memory.read 40 ≠ draining.memory.read 40 := ⟨rfl, by decide +kernel⟩

theorem reset_is_fresh : FreshBlocks 0 State.reset :=
  ⟨by decide, by decide,
    ⟨rfl, rfl, by decide, fun i h => by
        show (Table.mk _).read i = _
        rw [read_cases, if_neg (by omega)]; rfl,
      fun _ => rfl, fun _ => rfl, fun _ => rfl, fun _ => rfl, fun _ => rfl, fun _ => rfl, fun _ => rfl⟩,
    ⟨fun _ => rfl, fun _ _ => rfl, fun _ => rfl, rfl, rfl⟩, rfl, ⟨rfl, rfl, rfl, rfl, rfl, fun _ => rfl⟩,
    ⟨rfl, rfl, fun _ => ⟨rfl, rfl⟩⟩, ⟨rfl, rfl, fun c => by cases c <;> decide⟩,
    ⟨rfl, rfl, rfl, rfl, rfl, fun _ => rfl, by decide⟩, by decide, by decide⟩

theorem witness_ResetStates : busy.timing.inReset = false ∧ busy.pictures.directory.wf = true ∧
    (busy.pictures.directory.read 5).state = .loading ∧ (busy.pictures.directory.read 7).state ≠ .loading ∧
    State.reset.timing.inReset = true ∧ FreshBlocks 0 State.reset :=
  ⟨rfl, rfl, rfl, by decide, rfl, reset_is_fresh⟩

/-- A part whose latched canvas is 64 lines of two columns, the first of which is in output. -/
def midFrame : State := (busy.setCompositor { busy.compositor with
  latch := some ⟨.locked, 2, 64, Rgb.black, .empty, .empty⟩, lines := [[Rgb.black, Rgb.black]] }).setFetch
  { busy.fetch with height := 64 }

theorem witness_SoftResetOutcome : ([0] : List Byte) ≠ [] ∧ busy.pictures.directory.wf = true ∧
    State.reset.compositor.latch = none ∧
    ((midFrame.setCompositor { midFrame.compositor with blanked := true }).compositor.blanked = true) ∧
    (midFrame.compositor.latch.isSome = true ∧ midFrame.compositor.blanked = false ∧
      midFrame.compositor.lines.length < midFrame.fetch.height ∧
      midFrame.compositor.lines = [] ++ [[Rgb.black, Rgb.black]]) ∧
    (busy.compositor.lines = [] ∧ busy.fetch.height ≤ busy.compositor.lines.length) := by decide

theorem witness_CountersAndRefusals : ([0] : List Byte) ≠ [] := by decide

/-! ## Witnesses: the Carrier Receiver -/

theorem witness_CarrierSymbols : State.reset.receiver.interval = false ∧ busy.receiver.interval = true ∧
    (markPixels : List Rgb).length < 17 ∧ (List.replicate 17 Rgb.black).take 16 ≠ markPixels ∧
    ((⟨0, 0, 0xF0⟩ : Rgb).red.toNat + (⟨0, 0, 0xF0⟩ : Rgb).green.toNat ≠ 255) ∧
    (⟨0x10, 0xEF, 0x3C⟩ : Rgb).blue ∉ [(0x00 : Byte), 0xF0, 0x0F] ∧ listening.receiver.interval = true ∧
    listening.receiver.assembly = .hunt ∧ busy.receiver.assembly ≠ .hunt ∧ ([idlePixel] : List Rgb) ≠ [] := by decide

/-- A part with a packet in assembly. -/
def assembling (assembly : Assembly) (buffer : List Byte) (declared : Option Nat) (received : List Byte) : State :=
  listening.setReceiver { listening.receiver with
    assembly := assembly, buffer := buffer, declared := declared, check := crc buffer, received := received }

/-- Each hypothesis of a DATA symbol's clauses: a header's third byte, its fourth at 1025, 1024 and 0, the payload, the
first check byte, and the second, good and bad, for this node, for every node and for another. -/
theorem witness_CarrierSymbols_data :
    ((assembling .header [0, 2] none []).receiver.buffer.length < 3 ∧
      (assembling .header [0, 2, 1] none []).receiver.buffer.length = 3 ∧
      1024 < (byteAt [0, 2, 1] 2).toNat + 256 * (4 : Byte).toNat ∧
      (byteAt [0, 2, 0] 2).toNat + 256 * (4 : Byte).toNat ≤ 1024 ∧
      (byteAt [0, 2, 0] 2).toNat + 256 * (0 : Byte).toNat = 0) ∧
    ((assembling .payload [0, 2, 1, 0] (some 1) []).receiver.declared = some 1 ∧ 4 < 4 + 1) ∧
    ((assembling .check [0, 0x14, 0, 0] (some 0) []).receiver.received = [] ∧
      ([0, 15, 1].map fun d : Byte =>
        let good := crc [d, 0x14, 0, 0]
        decide ((good.toNat % 256) + 256 * (good.toNat / 256) = good.toNat) &&
          (decide (d.toNat = listening.port.node.val) || d == 15)) = [true, true, false] ∧
      (0 : Byte).toNat + 256 * (0 : Byte).toNat ≠ (crc [0, 0x14, 0, 0]).toNat) ∧
    (after (exec (.carrierLine (markPixels ++ [dataPixel 0])) (assembling .check [0, 0x14, 0, 0] (some 0) [0]))).receiver.badCheck
      = 1 ∧ PacketKind.code .hold = 0x14 ∧ (∀ kind : PacketKind, kind.code ≠ 0x7E) :=
  ⟨by decide, by decide, by decide +kernel, by decide +kernel, rfl, fun kind => by cases kind <;> decide⟩

theorem witness_PacketLineActsAsItsCommand : (List.replicate 1024 (0 : Byte)).length ≤ 1024 ∧
    listening.receiver.interval = true ∧ (0 : Byte).toNat = listening.port.node.val ∧
    ∀ kind : PacketKind, kind.code ≠ 0x7E :=
  ⟨by rw [List.length_replicate], rfl, rfl, fun kind => by cases kind <;> decide⟩

theorem witness_PacketLineDiscarded : (List.replicate 1024 (0 : Byte)).length ≤ 1024 ∧
    listening.receiver.interval = true ∧ (8 : Byte).toNat ≠ listening.port.node.val ∧ (8 : Byte) ≠ 15 ∧
    (0 : Byte).toNat + 256 * (0 : Byte).toNat ≠ (crc (packetBody 0 0x12 [])).toNat ∧ listening.receiver.assembly = .hunt ∧
    1024 < (1 : Byte).toNat + 256 * (4 : Byte).toNat := by decide +kernel

theorem witness_FirstActiveLineOutcome : State.reset.receiver.interval = false ∧ busy.receiver.interval = true ∧
    (locked.timing.source = .input ∧ locked.timing.blankingPassed < 10) := by decide

/-! ## Witnesses: the Table Loader -/

theorem witness_TableSelection : ([0, 0, 0] : List Byte).length ≠ 4 ∧
    (TableId.ofNumber 12 = none ∧ TableId.ofNumber 15 = none ∧ TableId.ofNumber 24 = none) ∧
    (TableId.ofNumber (byteAt [2, 95, 0, 0] 0).toNat = some .slots ∧ field [2, 95, 0, 0] 1 3 < TableId.slots.entries) ∧
    (TableId.ofNumber (byteAt [23, 16, 0, 0] 0).toNat = some .groupState ∧
      TableId.groupState.entries ≤ field [23, 16, 0, 0] 1 3) := by decide

theorem witness_WriteOutcome :
    State.reset.setup.cursor = none ∧
    ((atEntry .render 95).setup.cursor = some ⟨.render, 95⟩ ∧ TableId.render.readOnly = true) ∧
    ((busy.setSetup { busy.setup with cursor := some ⟨.fontMetrics, 25⟩ }).setup.cursor = some ⟨.fontMetrics, 25⟩ ∧
      0 < (List.replicate 4 (0 : Byte)).length / TableId.fontMetrics.entryBytes ∧
      entryInUse (busy.setSetup { busy.setup with cursor := some ⟨.fontMetrics, 25⟩ }) .fontMetrics 25 = true) ∧
    ((atEntry .formats 7).setup.cursor = some ⟨.formats, 7⟩ ∧ TableId.formats.readOnly = false ∧
      ([2, 1, 0, 0, 0, 0, 5, 4] : List Byte).length = TableId.formats.entryBytes ∧
      entryInUse (atEntry .formats 7) .formats 7 = false ∧
      putEntry .formats 7 [2, 1, 0, 0, 0, 0, 5, 4] (atEntry .formats 7).setup ≠ none ∧
      putEntry .formats 7 [2, 1, 0, 0, 0, 0, 20, 4] (atEntry .formats 7).setup = none) ∧
    ((atEntry .formats 8).setup.cursor = some ⟨.formats, 8⟩ ∧ TableId.formats.entries ≤ 8) ∧
    (TableId.canvas ≠ .fontMetrics ∧ (∀ f, TableId.canvas ≠ .glyphs f) ∧ TableId.canvas ≠ .tiles) ∧
    (([0, 0, 0, 0, 0, 0, 0] : List Byte) ≠ [] ∧ ([0, 0, 0, 0, 0, 0, 0] : List Byte).length < TableId.formats.entryBytes) := by
  decide +kernel

theorem witness_WriteStoresEntry :
    ((atEntry .canvas 0).setup.cursor = some ⟨.canvas, 0⟩ ∧
      (decodeCanvas ([0, 32, 0, 9] ++ List.replicate 12 0)).isSome = true) ∧
    ((decodeHead (List.replicate 16 0)).isSome = true ∧ (decodeSlot (List.replicate 32 0)).isSome = true) ∧
    ((decodeFormat [0, 2, 1, 0x88, 0x13, 3, 100, 0]).isSome = true ∧ (decodeSchedule [1, 3, 0x9F, 5]).isSome = true) ∧
    (fontInUse State.reset 3 = false ∧ (decodeMetric [1, 64, 80, 0]).isSome = true) ∧
    ((decodeGroup ((List.replicate 8 [0xFF, 3]).flatten ++ [8, 255, 0, 0])).isSome = true) ∧
    ((decodeTile ([0, 0xFF, 0xFF, 0x0F, 0, 4, 0, 4, 1] ++ [0, 0, 0])).isSome = true ∧
      tileInUse State.reset (BitVec.ofNat 8 255) = false) := by decide +kernel

theorem witness_TableEntries :
    (within 64 8192 (8192#16).toNat ∧ within 64 2304 (64#16).toNat ∧ (12 : Byte) ∈ legalShares ∧
      within 8000 50000 (50000#16).toNat) ∧
    (within 1 4096 (4096#16).toNat ∧ within 1 2304 (2304#16).toNat) ∧ (SlotEntry.initial.pw.toNat ≤ 8191) ∧
    (within 8 96 (96#8).toNat ∧ within 1 64 (64#8).toNat ∧ within 1 80 (80#8).toNat) ∧
    (within 1 8 GroupEntry.initial.count ∧ 1 ≤ GroupEntry.initial.dwell.toNat) ∧
    ((0x0FFFFF00#32).toNat % 256 = 0 ∧ (0x0FFFFF00#32).toNat < memoryBytes ∧ within 1 1024 (1024#16).toNat) := by
  simp only [within]
  decide

/-! ## Witnesses: the Change Stager -/

theorem witness_ChangeRecords :
    (byteAt [1] 0).toNat = 1 ∧ (byteAt [2] 0).toNat = 2 ∧ (byteAt [3] 0).toNat = 3 ∧ (byteAt [0] 0).toNat ∉ [1, 2, 3] ∧
    (byteAt [4] 0).toNat ∉ [1, 2, 3] ∧
    parseChange [1, 3, 0xFF, 3, 0xFF, 0xFF, 0xFF, 9] = some (.price 3 1023 none) ∧
    parseChange [2, 9, 1, 0, 1, 0, 7, 7, 7, 8, 9, 0xFE] = some (.item 1 ⟨.soldOut, .none, none, some 9⟩) ∧
    parseChange [3, 9, 95, 0, 1, 2, 15, 0, 1, 255] = some (.bind 95 ⟨true, .group 15, .fixed 255⟩) ∧
    parsePair [0, 0, 2, 9] = some (0, .hidden) := by decide +kernel

theorem witness_StageAndStatusNow :
    (([] : List Byte).length = 0 ∧ (List.replicate 15 (0 : Byte)).length % 16 ≠ 0) ∧
    ((List.replicate 16 (1 : Byte)).length % 16 = 0 ∧ (List.replicate 16 (0 : Byte)).length = 16 ∧
      parseChange (List.replicate 16 0) = none) ∧
    ([encodeChange (.price 0 0 none)].map parseChange = [Change.price 0 0 none].map some ∧
      (encodeChange (.price 0 0 none)).length = 16) ∧ (64 < (List.replicate 68 (0 : Byte)).length ∧ 68 % 4 = 0) ∧
    (1023 < field [0, 4, 0, 0] 0 2 ∧ 2 < (byteAt [0, 0, 3, 0] 2).toNat) ∧
    ((List.replicate 16 [0, 0, 2, 0xFF]).map parsePair = (List.replicate 16 ((0 : Fin 1024), Status.hidden)).map some ∧
      (List.replicate 16 [0, 0, 2, 0xFF]).length ≤ 16) := by decide +kernel

theorem witness_SealAndQueue : ([0] : List Byte).length ≠ 4 ∧
    (86400 ≤ field [0x80, 0x51, 1, 0] 0 4 ∧ field [0x80, 0x51, 1, 0] 0 4 ≠ 0xFFFFFFFF) ∧
    field [0x7F, 0x51, 1, 0] 0 4 < 86400 ∧ field [255, 255, 255, 255] 0 4 = 0xFFFFFFFF ∧
    ([0] : List Byte) ≠ [] := by decide

theorem witness_BoundaryAppliesChanges :
    (Batch.mk [] none).tag = none ∧ (Batch.mk [] (some 86399)).tag = some 86399 ∧ 86399 < 86400 ∧ Canonical busy :=
  ⟨rfl, rfl, by decide, witness_CanonicalFormKept.1⟩

/-! ## Witnesses: the Time Base -/

theorem witness_ClockOutcome : ([0] : List Byte).length ≠ 8 ∧
    (86399 < field [0x80, 0x51, 1, 0, 0, 0, 0, 0] 0 4 ∧ 999999 < field [0, 0, 0, 0, 0x40, 0x42, 0x0F, 0] 4 4) ∧
    (field [0x7F, 0x51, 1, 0, 0x3F, 0x42, 0x0F, 0] 0 4 ≤ 86399 ∧ field [0x7F, 0x51, 1, 0, 0x3F, 0x42, 0x0F, 0] 4 4 ≤ 999999) ∧
    (busy.timing.inReset = false ∧ State.reset.timing.inReset = true) ∧
    State.reset.timeBase.clockSet = false ∧ busy.timeBase.clockSet = true ∧ busy.timeBase.micros < 1000000 ∧
    exec (.clockAdvance 1) busy = .next (after (exec (.clockAdvance 1) busy)) :=
  ⟨by decide, by decide, by decide, by decide, rfl, rfl, by decide, rfl⟩

theorem witness_DaypartChoice :
    (∀ k : Fin 8, (Table.read (Table.empty : Table ScheduleEntry.initial) k.val).enabled ≠ true) ∧
    (∃ k : Fin 8, (schedule.read k.val).enabled = true) ∧
    (∃ j : Fin 8, (schedule.read j.val).enabled = true ∧ (schedule.read j.val).start.val ≤ 21600 / 60) ∧
    (∀ j : Fin 8, (schedule.read j.val).enabled = true → 6000 / 60 < (schedule.read j.val).start.val) := by decide +kernel

theorem witness_GroupRestartOutcome : ([0, 0] : List Byte).length ≠ 1 ∧
    (16 ≤ (16 : Byte).toNat ∧ (16 : Byte) ≠ 255 ∧ 16 ≤ (254 : Byte).toNat ∧ (254 : Byte) ≠ 255) ∧
    (15 : Byte).toNat < 16 := by decide

/-- R98: a SET_TIME and an advance in reset leave the clock UNSET at 0; the same after RESET_COMPLETE set and move it. -/
theorem test_clock_does_not_run_in_reset :
    let sent := fun s => (run s [.setTime [0, 0, 1, 0, 5, 0, 0, 0], .clockAdvance 3]).timeBase
    (sent State.reset).clockSet = false ∧ (sent State.reset).seconds = 0 ∧ (sent State.reset).micros = 0 ∧
      (sent (after (exec .resetComplete State.reset))).seconds = 65536 ∧
      (sent (after (exec .resetComplete State.reset))).micros = 8 := by decide +kernel

/-- Groups in which 1 follows 0, and 2 names itself; group 0 has a dwell of one frame. -/
def rotating : State :=
  ((busy.setSetup { busy.setup with groups := ⟨[(0, { GroupEntry.initial with dwell := 1, count := 2 }),
      (1, { GroupEntry.initial with leader := some 0 }), (2, { GroupEntry.initial with leader := some 2 })]⟩ }).setTimeBase
    { busy.timeBase with runs := ⟨[(0, ⟨1, 0, false, false, false⟩), (1, ⟨0, 0, false, false, false⟩),
      (2, ⟨0, 0, false, false, true⟩), (3, ⟨0, 0, true, false, false⟩)]⟩ })

theorem witness_BoundaryMovesGroups :
    ((rotating.timeBase.runs.read 15).pending = true ∧ (rotating.timeBase.runs.read 3).stopped = true) ∧
    ((rotating.timeBase.runs.read 0).pending = false ∧ (rotating.timeBase.runs.read 0).stopped = false ∧
      (rotating.setup.groups.read 0).leader = none) ∧
    ((rotating.timeBase.runs.read 1).pending = false ∧ (rotating.timeBase.runs.read 1).stopped = false ∧
      (rotating.setup.groups.read 1).leader = some 0 ∧ (rotating.setup.groups.read 0).leader = none) ∧
    ((rotating.timeBase.runs.read 2).pending = false ∧ (rotating.setup.groups.read 2).leader = some 2) := by decide +kernel

theorem witness_GroupStepping :
    let once : GroupEntry := { GroupEntry.initial with count := 2, mode := .oneShot }
    let skipping : GroupEntry := { GroupEntry.initial with
      members := #v[0, 1, 2, 0, 0, 0, 0, 0], count := 3, skipUnavailable := true }
    let items : Table Item.initial := ⟨[(2, { Item.initial with status := .available })]⟩
    (once.mode = .oneShot ∧ 1 + 1 = once.count ∧ 0 + 1 < once.count ∧ once.skipUnavailable = false) ∧
    (skipping.skipUnavailable = true ∧ skipping.mode = .repeating ∧
      (items.read (skipping.member ((0 + 2) % 3)).val).status = .available ∧
      (items.read (skipping.member ((0 + 1) % 3)).val).status ≠ .available) ∧
    (leaderOf rotating.setup.groups 0 = none ∧
      ¬ (rotating.setup.groups.read 0).dwell.toNat ≤ (rotating.timeBase.runs.read 0).count) ∧
    (let due := rotating.setTimeBase { rotating.timeBase with runs := ⟨[(0, ⟨0, 1, false, false, false⟩)]⟩ }
     leaderOf due.setup.groups 0 = none ∧ (due.timeBase.runs.read 0).pending = false ∧
      (due.timeBase.runs.read 0).stopped = false ∧
      (due.setup.groups.read 0).dwell.toNat ≤ (due.timeBase.runs.read 0).count) := by decide +kernel

/-! ## Witnesses: the Price Engine -/

/-- An item with the given status and a tile for each case. -/
def stocked (status : Status) : Item := ⟨status, .none, some 1, some 2⟩

/-- A slot of the given treatment, one pixel in size, shown in every daypart. -/
def treated (treatment : Treatment) : SlotEntry :=
  { SlotEntry.initial with w := 1, h := 1, dayparts := 0xFF, treatment := treatment, d := 128 }

/-- Slots 0 to 3 show the SOLD_OUT item 1 with each treatment, slot 4 an AVAILABLE item, slots 5 and 6 no item, slot 7 the
HIDDEN item 0, slot 8 group 0, slot 9 has no size. -/
def shop : State :=
  (State.reset.setSetup { Setup.initial with
    slots := ⟨[(0, treated .none), (1, treated .dim), (2, treated .grey), (3, treated .altTile), (4, treated .none),
      (5, treated .none), (6, treated .none), (7, treated .none), (8, treated .none)]⟩ }).setLive
  { Live.initial with
    items := ⟨[(1, stocked .soldOut), (2, stocked .available)]⟩
    bindings := ⟨[(0, ⟨true, .item 1, .itemTile⟩), (1, ⟨true, .item 1, .itemTile⟩), (2, ⟨true, .item 1, .itemTile⟩),
      (3, ⟨true, .item 1, .itemTile⟩), (4, ⟨true, .item 2, .fixed 9⟩), (5, ⟨true, .none, .itemTile⟩),
      (6, ⟨true, .none, .noTile⟩), (7, ⟨true, .item 0, .itemTile⟩), (8, ⟨true, .group 0, .itemTile⟩),
      (9, ⟨true, .none, .noTile⟩)]⟩ }

theorem witness_BoundarySettlesRecords :
    let r := fun k => (frameBoundary .generator shop).engine.frame.read k
    ([0, 1, 2, 3, 4, 5, 6].map fun k => (r k).visible) = List.replicate 7 true ∧
      ([7, 8, 9, 95].map fun k => (r k).visible) = List.replicate 4 false ∧
      ([0, 1, 2, 3, 4, 5, 6].map fun k => (r k).tile) = [some 1, some 1, some 1, some 2, some 9, none, none] ∧
      ([0, 1, 2, 3, 4, 5].map fun k => (r k).applied) = [.none, .dim 128, .grey, .altTile, .none, .none] := by
  decide +kernel

theorem witness_PriceArithmetic : (stocked .soldOut).status = .soldOut ∧ (stocked .available).status ≠ .soldOut ∧
    (none : Option Price) = none ∧ (∃ p : Price, some p = some 99999) ∧
    ([Rounding.exact, .nearest, .up, .charm].map fun r => applyRounding { FormatEntry.initial with rounding := r, granularity := .g50 } 1025) =
      [1025, 1050, 1050, 1029] := by
  refine ⟨rfl, by decide, rfl, ⟨99999, rfl⟩, by decide⟩

theorem witness_RunOfDisplayValue :
    ((0 : Nat) = 0 ∧ ({ FormatEntry.initial with zeroMark := true } : FormatEntry).zeroMark = true) ∧
    (99999 ≤ 99999 ∧ 99999 ≠ 0 ∧ priceRun FormatEntry.initial 99999 = [21, 9, 9, 9, 20, 9, 9]) ∧
    (FormatEntry.initial.zeroMark = false ∧ priceRun FormatEntry.initial 0 = [21, 0, 20, 0, 0]) := by decide

theorem witness_FitRule :
    let all := fun run : List Nat => ∀ c ∈ run, (fontA.metric c).present = true
    let full : Fitting := ⟨[21, 3, 20, 9, 9], RenderFlags.clear⟩
    (all full.run ∧ fontA.height ≤ 48 ∧ fontA.runWidth full.run ≤ 156) ∧
    (all full.run ∧ fontA.height ≤ 60 ∧ 150 < fontA.runWidth full.run ∧ currencyCode ∈ full.run ∧
      fontA.runWidth (full.run.filter (· ≠ currencyCode)) ≤ 150) ∧
    (full.run ≠ [] ∧ all full.run ∧ 47 < fontA.height) ∧
    (all full.run ∧ 50 < fontA.runWidth (full.run.filter (· ≠ currencyCode)) ∧ fontA.width 22 ≤ 50 ∧
      (fitRun fontA 50 60 full).run = [22] ∧ (fitRun fontA 23 60 full).run = []) ∧
    ((∃ c ∈ [31], (fontA.metric c).present = false) ∧ (fontA.metric 22).present = true ∧ 23 < fontA.width 22 ∧
      ¬ ({ fontA with font := 1 }.metric 22).present = true) ∧
    (treated .none).pw.toNat = 0 ∧ (fitRun fontA 0 0 full).run = [] ∧ (fitRun fontA 156 48 full).run ≠ [] := by
  decide +kernel

/-- A part whose frame shows an item and whose tenth line ends at 278 µs. -/
def computing : State :=
  (frameBoundary .generator (shop.setTiming { Timing.initial with inReset := false })).setNow 149

theorem witness_CompletionOutcome :
    State.reset.engine.computing = false ∧
    (computing.timing.source ≠ .input ∧ computing.timing.generatorFrame = some ⟨16667, 1080⟩ ∧
      (148 - computing.timing.frameStart) * (45 + 1080) < 10 * 16667) ∧
    (locked.timing.source = .input ∧ locked.timing.blankingPassed + locked.compositor.lines.length < 10) ∧
    (let s := locked.setTiming { locked.timing with blankingPassed := 9 }
     10 ≤ s.timing.blankingPassed +
      (s.setCompositor { s.compositor with lines := [[]] }).compositor.lines.length) ∧
    (computing.engine.computing = true ∧ computing.engine.snapshot.isSome = true ∧
      10 * 16667 ≤ (computing.now - computing.timing.frameStart) * (45 + 1080)) ∧
    ((computing.engine.frame.read 95).visible = false ∧ (computing.engine.frame.read 5).item = none ∧
      (computing.engine.frame.read 4).visible = true ∧ (computing.engine.frame.read 4).item = some 2) := by decide +kernel

/-! ## Witnesses: the Picture Loader -/

/-- A tile entry that leaves no room in picture memory, at the last base there is. -/
def lastTile : TileEntry := ⟨0x0FFFFF00, 64, 2, .solid⟩

theorem witness_LoadOpenOutcome :
    ([0, 0, 0] : List Byte).length ≠ 4 ∧ 1 < (byteAt [2, 0, 0, 0] 0).toNat ∧ 2 < (byteAt [1, 0, 3, 0] 2).toNat ∧
    ([LoadChannel.number .b, 5, SourceFormat.number .rgb565, 7] : List Byte) = [1, 5, 2, 7] ∧
    (busy.pictures.channel .a).state ≠ .idle ∧
    ((busy.pictures.channel (otherChannel .b)).state ≠ .idle ∧ (busy.pictures.channel (otherChannel .b)).tile = 5) ∧
    ((busy.pictures.directory.read 7).state = .ready ∧ tileShown busy 7 = true) ∧
    268435456 < lastTile.base.toNat + lastTile.width.toNat * lastTile.height.toNat * 4 ∧
    (after (exec (.loadOpen [1, 9, 2, 0]) busy)).pictures.channelB.state = .opened := by decide +kernel

/-- A part whose channel B is OPEN with a write buffer of 1024 words. -/
def fullBuffer : State := busy.setPictures { busy.pictures with
  channelB := { Channel.initial with
    state := .opened, tile := 9, byteCount := 4000, received := 3072
    buffer := (List.range 1024).map fun k => ⟨4 * k, ⟨0, 0, 0, 0⟩⟩ } }

theorem witness_LoadDataOutcome :
    (List.replicate 7 (0 : Byte)).length < 8 ∧ (8 ≤ (2 :: List.replicate 7 (0 : Byte)).length ∧ 1 < (2 : Byte).toNat) ∧
    (busy.pictures.channel .b).state ≠ .opened ∧
    ((busy.pictures.channel .a).state = .opened ∧ 3 ≠ (busy.pictures.channel .a).received) ∧
    ((fullBuffer.pictures.channel .b).state = .opened ∧
      4096 - 4 * (fullBuffer.pictures.channel .b).buffer.length < 4 * ((0 + min 3 (4000 - 3072)) / 3)) ∧
    ((busy.pictures.channel .a).received < 2 ^ 32 ∧
      4 * ((2 + 1) / 3) ≤ 4096 - 4 * (busy.pictures.channel .a).buffer.length ∧
      (busy.pictures.channel .a).holding.length = (busy.pictures.channel .a).received % 3 ∧
      0 < (busy.pictures.channel .a).buffer.length + (2 + 1) / 3) := by decide +kernel

/-- A part whose channel A has the 40 first words of a picture 32 pixels wide, eight of them in its second row. -/
def rowsLoaded : State :=
  (busy.setSetup { busy.setup with tiles := ⟨[(5, ⟨0, 32, 4, .alpha⟩)]⟩ }).setPictures { busy.pictures with
    channelA := { loadingChannel with
      byteCount := 384, received := 120, holding := [], buffer := (List.range 40).map fun k => ⟨4 * k, ⟨1, 1, 1, 1⟩⟩ } }

theorem witness_LoadEndings :
    ([] : List Byte).length ≠ 1 ∧ 1 < (2 : Byte).toNat ∧ (busy.pictures.channel .b).state ≠ .opened ∧
    ((rowsLoaded.pictures.channel .a).state = .opened ∧
      (after (exec (.loadEnd [0]) rowsLoaded)).pictures.channelA.buffer.length = 32 ∧
      (after (exec (.loadEnd [0]) rowsLoaded)).pictures.channelA.endRows = some 1) ∧
    ((busy.pictures.channel .a).state = .opened ∧ (busy.pictures.channel .a).buffer = [] ∧
      ((after (exec (.loadEnd [0]) busy)).pictures.directory.read 5).state = .empty) ∧
    (busy.pictures.channel .b).state = .idle ∧ (busy.pictures.channel .a).state ≠ .idle := by decide +kernel

/-- A part whose channel A is ENDING with nothing left to write, after the given end rows, and channel B OPEN at a stall
count. -/
def endings (rows : Option Nat) (stall : Nat) : State := busy.setPictures { busy.pictures with
  channelA := { loadingChannel with state := .ending, holding := [], endRows := rows }
  channelB := { loadingChannel with tile := 6, stall := stall } }

theorem witness_LoadEvents :
    ((busy.pictures.channel .a).state ≠ .ending ∧ (draining.pictures.channel .a).buffer ≠ []) ∧
    ([none, some 0, some 1].map fun rows =>
      ((after (exec (.drainEnd .a) (endings rows 0))).pictures.directory.read 5).state) = [.ready, .empty, .ready] ∧
    (((endings none 120).pictures.channel .b).state = .opened ∧ 119 < 120 ∧
      (after (exec (.stallAbort .b) (endings none 120))).pictures.stalls = 1 ∧
      (after (exec (.stallAbort .b) (endings none 119))).pictures.channelB.state = .opened) ∧
    ([118, 119].map fun k => ((frameBoundary .generator (endings none k)).pictures.channelB.state)) = [.opened, .idle] ∧
    ((frameBoundary .generator (endings none 119)).pictures.stalls = 1 ∧
      ((endings none 119).pictures.channel .a).tile ≠ 7 ∧ ((endings none 119).pictures.channel .b).tile ≠ 7) := by
  decide +kernel

/-! ## Witnesses: the Fetch Unit, the Memory Arbiter and the Compositor -/

/-- A part whose slot 0 shows tile 7, 4 pixels by 2, latched READY with 2 rows, at column -1 and row 0 of the canvas. -/
def showing : State :=
  (busy.setSetup { busy.setup with tiles := ⟨[(7, ⟨0, 4, 2, .solid⟩)]⟩ }).setFetch { busy.fetch with
    tileLatch := ⟨[(7, some 2)]⟩
    width := 64, height := 64
    slots := ⟨[(0, { SlotEntry.initial with x := 0xFFFF, w := 4, h := 3 })]⟩ }

theorem witness_SpanRule :
    (showing.engine.frame.read 1).visible = false ∧ (showing.engine.frame.read 0).visible = true ∧
    (showing.engine.frame.read 0).tile = some 7 ∧ showing.fetch.tileLatch.read 7 = some 2 ∧
    showing.fetch.tileLatch.read 8 = none ∧
    (fetchEntry showing 1 0 = some ⟨0, 7, 1, 1, 3, 0, 20, 32, 0⟩ ∧ fetchEntry showing 2 0 = none) := by decide +kernel

/-- A part with no line fetch and with channel B, too, asking for the port. -/
def bothAsking (a b : Bool) (fetching : Bool) (arbiter : Arbiter) : State :=
  ((busy.setPictures { busy.pictures with
    channelA := if a then { loadingChannel with state := .ending, buffer := [⟨32, ⟨1, 2, 3, 4⟩⟩] } else loadingChannel
    channelB := if b then { loadingChannel with
      buffer := (List.range 8).map fun k => ⟨64 + 4 * k, ⟨5, 5, 5, 5⟩⟩ } else Channel.initial }).setFetch
    { busy.fetch with fetching := fetching }).setArbiter arbiter

theorem witness_GrantsAndWindows :
    grantee (bothAsking false false true ⟨0, 0, 0⟩) = some .fetchUnit ∧
    grantee (bothAsking true true true ⟨15, 4, 4⟩) = some .fetchUnit ∧
    grantee (bothAsking true true true ⟨14, 3, 4⟩) = some (.channel .a) ∧
    grantee (bothAsking false true false ⟨15, 4, 4⟩) = some (.channel .b) ∧
    grantee (bothAsking false false false ⟨3, 0, 4⟩) = none ∧
    draining.fetch.todo = [] ∧ busy.fetch.todo ≠ [] ∧ 16 ≤ (Arbiter.mk 16 4 4).grants ∧ busy.arbiter.grants < 16 := by
  decide +kernel

theorem witness_GrantReadsBurst :
    grantee busy = some .fetchUnit ∧ busy.fetch.todo = [pendingEntry] ∧ pendingEntry.nextBurst * 32 < 268435456 ∧
    8388607 * 32 < 268435456 ∧ busy.memory.oneBitBursts.read pendingEntry.nextBurst = false ∧
    busy.memory.oneBitBursts.read 1 = true := by decide +kernel

theorem witness_GrantWritesBurst :
    (grantee draining = some (.channel .a) ∧ (draining.pictures.channel .a).buffer = [⟨32, ⟨1, 2, 3, 4⟩⟩] ∧
      32 / 32 * 32 < 268435456 ∧ (draining.pictures.channel .a).state = .ending) ∧
    (grantee (bothAsking false true false ⟨0, 0, 0⟩) = some (.channel .b) ∧
      ((bothAsking false true false ⟨0, 0, 0⟩).pictures.channel .b).state = .opened ∧
      ((bothAsking false true false ⟨0, 0, 0⟩).pictures.channel .b).buffer.length = 8) := by decide +kernel

/-- A drawing set with slot 0 over the pixels (0, 0) to (2, 2), a complete store entry of one pixel, and slot 1 under it
with no tile and no run. -/
def drawing : DrawingSet where
  setup := Setup.initial
  slots := ⟨[(0, { SlotEntry.initial with x := 0xFFFF, w := 4, h := 3 }), (1, { SlotEntry.initial with w := 1, h := 1 })]⟩
  frame := ⟨[(0, shown), (1, { RenderRecord.initial with visible := true })]⟩
  snapshot := none
  store := [⟨0, 1, [⟨1, 2, 3, 4⟩], true⟩, ⟨1, 0, [⟨1, 2, 3, 4⟩], false⟩]

theorem witness_PixelLayers : 255 ≤ 255 ∧
    ((drawing.frame.read 2).visible = false ∧ covers (drawing.slots.read 0) 3 0 = false) ∧
    ((drawing.frame.read 0).visible = true ∧ covers (drawing.slots.read 0) 2 2 = true) ∧
    (storePixel drawing.store 0 1 = some ⟨1, 2, 3, 4⟩ ∧ (drawing.frame.read 0).tile = some 7) ∧
    (storePixel drawing.store 0 2 = none ∧ (drawing.frame.read 1).tile = none) ∧
    (∀ e ∈ drawing.store, e.slot = 1 → e.complete = false) ∧ (drawing.frame.read 1).run = [] ∧
    ((∀ b ∈ [StoreEntry.mk 0 0 [] false], b.slot = 0 → b.complete = false) ∧
      storePixel (StoreEntry.mk 0 0 [] false :: drawing.store) 0 1 = some ⟨1, 2, 3, 4⟩ ∧
      storePixel drawing.store 0 0 = none) ∧
    ({ drawing with snapshot := some (takeSnapshot State.reset) }.snapshot.isSome = true ∧
      (drawing.frame.read 0).run = [22]) ∧ (63 < 64 ∧ 95 < 96 ∧ 63 % 2 = 1 ∧ 0 % 2 = 0) := by decide +kernel

/-- A part whose latched canvas is one line of two columns, its records complete, its first line due at 16652 µs. -/
def lineDue : State :=
  ((busy.setNow 16652).setTiming { busy.timing with generatorFrame := some ⟨16667, 1⟩ }).setCompositor
    { busy.compositor with latch := some ⟨.noInput, 2, 1, Rgb.black, Setup.initial.heads, .empty⟩ }

/-- The same in a blanked frame. -/
def blankedLine : State := lineDue.setCompositor { lineDue.compositor with blanked := true }

theorem witness_LineOutputOutcome :
    (State.reset.compositor.latch = none ∧ computing.engine.computing = true ∧ computing.compositor.blanked = false ∧
      (locked.receiver.interval = true ∧ (busy.now - busy.timing.frameStart) * (45 + 1080) < (45 + 0) * 16667)) ∧
    (∃ l, lineDue.compositor.latch = some l ∧ lineDue.compositor.blanked = false ∧ lineDue.engine.computing = false ∧
      lineDue.compositor.lines.length < l.height) ∧
    (lineDue.timing.source = .generator ∧ lineDue.timing.generatorFrame = some ⟨16667, 1⟩ ∧
      (45 + 0) * 16667 ≤ (lineDue.now - lineDue.timing.frameStart) * (45 + 1)) ∧
    (locked.timing.source = .input ∧ State.reset.receiver.interval = false) ∧
    ((after (exec (.lineOutputStart []) lineDue)).compositor.lines.length = 1) ∧
    (blankedLine.compositor.blanked = true ∧ (after (exec (.lineOutputStart []) blankedLine)).compositor.lines = [[]]) :=
  ⟨⟨rfl, by decide +kernel⟩, ⟨_, rfl, rfl, rfl, by decide⟩, by decide, ⟨rfl, rfl⟩, by decide +kernel, by decide +kernel⟩

/-- A part that has composed its one canvas line of two columns, with head 0 reaching past it on every side. -/
def composed : State := busy.setCompositor
  { busy.compositor with
    latch := some ⟨.noInput, 2, 1, Rgb.black, ⟨[(0, ⟨true, 0xFFFF, 0xFFFF, 4, 3, ⟨9, 9, 9⟩⟩)]⟩, .empty⟩
    lines := [[⟨1, 1, 1⟩, ⟨2, 2, 2⟩]] }

theorem witness_HeadsSendTheirRectangle :
    (LinesLegal busy ∧ ∃ t, step busy = .next t) ∧ LinesLegal composed ∧
    (∃ l, composed.compositor.latch = some l ∧ (l.heads.read 0).enabled = true ∧ (l.heads.read 1).enabled = false) ∧
    headRows composed 0 = [List.replicate 4 ⟨9, 9, 9⟩, [⟨9, 9, 9⟩, ⟨1, 1, 1⟩, ⟨2, 2, 2⟩, ⟨9, 9, 9⟩],
      List.replicate 4 ⟨9, 9, 9⟩] ∧
    headRows (composed.setCompositor { composed.compositor with lines := [] }) 0 = [List.replicate 4 ⟨9, 9, 9⟩] :=
  ⟨⟨⟨fun l h => by cases h; decide, fun l h _ => by cases h; decide⟩, busy_steps⟩,
    ⟨fun l h => by cases h; decide, fun l h _ => by cases h; decide⟩, ⟨_, rfl, by decide, by decide⟩,
    by decide +kernel, by decide +kernel⟩

/-! ## Witnesses: the timing unit -/

theorem witness_AcquiringTheInput :
    (List.replicate 2 (Measurement.mk 0 0 0 0)).length < 3 ∧ State.reset.timing.inReset = true ∧
    (busy.timing.inReset = false ∧ busy.timing.lock = .acquiring ∧ busy.timing.current = some ⟨0, 0, 0, 3⟩) ∧
    (nearlyLocked.timing.lock = .acquiring ∧ nearlyLocked.timing.current = some ⟨0, 1920, 1, 45⟩ ∧
      ∃ g, acceptedGeometry (nearlyLocked.timing.measurements ++ [⟨1920, 1080, 45, 100⟩]) = some g ∧
        matchesCanvas g nearlyLocked.setup.canvas = true) ∧
    (∃ g, acceptedGeometry (nearlyLocked.timing.measurements ++ [⟨1920, 1, 45, 100⟩]) = some g ∧
      matchesCanvas g CanvasEntry.initial = true ∧ matchesCanvas g { CanvasEntry.initial with width := 64 } = false) ∧
    (busy.timing.measurements ++ [Measurement.mk 0 0 3 100]).length < 3 :=
  ⟨by decide, rfl, by decide, ⟨rfl, rfl, _, rfl, by decide⟩, ⟨_, rfl, by decide, by decide⟩, by decide⟩

theorem witness_FrameStartInLock :
    locked.timing.inReset = false ∧ locked.timing.lock = .locked ∧ locked.timing.current = some ⟨0, 1920, 1, 45⟩ ∧
    (∃ g, acceptedGeometry (locked.timing.measurements.drop 1 ++ [⟨1920, 1080, 45, 100⟩]) = some g ∧
      matchesCanvas g locked.setup.canvas = true ∧ matchesCanvas g { CanvasEntry.initial with height := 64 } = false) ∧
    locked.timing.source = .input :=
  ⟨rfl, rfl, rfl, ⟨_, rfl, by decide, by decide⟩, rfl⟩

theorem witness_FrameTimers :
    State.reset.timing.timeout = none ∧
    (busy.timing.timeout = some 33334 ∧ busy.now < 33334 ∧ busy.timing.source = .generator) ∧
    (locked.timing.timeout = some 33366 ∧ (locked.setNow 33366).now ≤ 33366 ∧ locked.timing.source ≠ .generator) ∧
    (State.reset.timing.inReset = true ∧ locked.timing.source ≠ .generator) ∧
    (busy.timing.inReset = false ∧ busy.timing.generatorFrame = some ⟨16667, 1080⟩ ∧
      busy.now < busy.timing.frameStart + 16667 ∧ frameDue.timing.frameStart + 16667 ≤ frameDue.now ∧
      frameDue.timing.lock ≠ .locked) := by decide

theorem witness_BoundaryLatches : 255 < 256 ∧ 0 < busy.setup.canvas.height.toNat ∧
    (busy.setSetup { busy.setup with canvas := { busy.setup.canvas with height := 0 } }).setup.canvas.height.toNat = 0 ∧
    (frameBoundary .awaitingInput busy).fetch.tileLatch.read 7 = some 1 ∧
    (frameBoundary .awaitingInput busy).fetch.tileLatch.read 5 = none := by decide +kernel

/-! ## Witnesses: the Status Line Port -/

/-- A part whose reply waits, with 19 quiet readings, the last at 96 µs, and a deadline at 5000 µs. -/
def waiting : State := busy.setPort { busy.port with reply := .waiting 3 .status 5000 19 96 }

/-- A part that sends one byte, 0x01, at 96 µs: the bit in progress is its third. -/
def sending : State := busy.setPort { busy.port with reply := .sending [0x05] 94 }

theorem witness_PortPackets :
    ([1, 2] : List Byte).length ≠ 1 ∧ 7 < (8 : Byte).toNat ∧
    (1 < (2 : Byte).toNat ∧ (1 : Byte).toNat ≤ 1 ∧ ([] : List Byte).length ≠ (1 : Byte).toNat) ∧
    waiting.port.reply ≠ .idle ∧ busy.port.reply = .idle ∧ State.reset.setup.cursor = none ∧
    busy.setup.cursor = some ⟨.slots, 96⟩ ∧ (atEntry .slots 95).setup.cursor = some ⟨.slots, 95⟩ := by decide

theorem witness_ReplyLife :
    (State.reset.timing.inReset = true ∧ ∀ n c d q r, busy.port.reply ≠ .waiting n c d q r) ∧
    (waiting.timing.inReset = false ∧ waiting.port.reply = .waiting 3 .status 5000 19 96 ∧ 19 ≤ 20 ∧
      (waiting.now - 96) / 2 = 2 ∧ waiting.now ≤ 5000 ∧ 5000 < (waiting.setNow 5001).now) ∧
    (let count := fun l : List Bool => if false ∈ l then (l.reverse.takeWhile id).length else 19 + l.length
     (∀ k ≤ 2, count ([false, true].take k) < 20) ∧ count [false, true] = 1 ∧ 20 ≤ count ([true, false].take 1)) ∧
    (busy.port.reply = .idle ∧ 5000 ≤ (waiting.setNow 5000).now ∧ waiting.now < 5000) ∧
    (sending.port.reply = .sending [0x05] 94 ∧ (frameBits [0x05])[(sending.now - 94) / 2]? = some true ∧
      (frameBits [0x05])[(96 - 94) / 2 + 1]? = some false ∧ 94 + 20 * 1 ≤ (sending.setNow 114).now ∧
      sending.now < 94 + 20 * 1) :=
  ⟨⟨by decide, fun n c d q r h => (by cases h)⟩, by decide, by decide, by decide, by decide⟩

theorem witness_ReplyLayouts : (List.replicate 248 (0 : Byte)).length ≤ 248 ∧ ([5] : List Byte)[0]? = some 5 ∧
    PoolBounded busy ∧ ClockLegal busy ∧ (busy.pictures.channel .a).received < 2 ^ 32 ∧
    (busy.pictures.channel .b).received < 2 ^ 32 :=
  ⟨by rw [List.length_replicate], rfl, ⟨by decide, by decide, by decide⟩, ⟨by decide, by decide, by decide⟩, by decide,
    by decide⟩

theorem witness_ReadEntriesLayout : RecordLegal shown ∧ shown.xOffset < 2 ^ 13 ∧ shown.yOffset < 2 ^ 13 ∧
    (busy.timeBase.runs.read 3).index < 256 ∧ (busy.timeBase.runs.read 3).count < 65536 ∧
    (busy.live.price 3 1023 = none) ∧ ((Live.initial.books.write 1 (some (5 : Price))).read 1 = some 5) :=
  ⟨⟨by decide, by decide, by decide⟩, by decide, by decide, by decide, by decide, by decide, by decide⟩

/-- R31, R119: after nine blanking lines and one active line of a blanked frame its tenth line has ended; after nine
blanking lines alone it has not. -/
theorem test_tenth_line_of_a_blanked_frame :
    let at9 := (locked.setTiming { locked.timing with blankingPassed := 9 }).setCompositor
      { locked.compositor with blanked := true, lines := [] }
    tenthLineEnded at9 = false ∧
      tenthLineEnded (at9.setCompositor { at9.compositor with lines := [[]] }) = true := by decide

/-- R29, R31: a handover wait that began at 0 µs and lasted 166 µs at 16667 µs over 1125 lines counts 11 lines. -/
theorem test_wait_lines_are_counted :
    let s := (locked.setTiming { locked.timing with
      source := .awaitingInput, generatorFrame := some ⟨16667, 1080⟩ }).setNow 166
    (after (exec (.inputFrameStart 1079 500) s)).timing.blankingPassed = 11 := by decide +kernel

/-- R184: no reading is taken before its bit time, so a reply cannot start within 40 µs of its QUERY; R189: none starts
in reset. -/
theorem test_reply_waits_for_its_readings :
    let asked := after (exec (.queryStatus false [0]) busy)
    let later := asked.setNow 139
    let due := asked.setNow 140
    let all := List.replicate 20 true
    let sends := fun s : State => match s.port.reply with | .sending _ _ => true | _ => false
    sends (after (exec (.replyStart all) asked)) = false ∧ sends (after (exec (.replyStart all) later)) = false ∧
      sends (after (exec (.replyStart all) due)) = true ∧
      sends (after (exec (.replyStart all) (due.setTiming { due.timing with inReset := true }))) = false := by
  decide +kernel

end Sys2Proof.Tests
end

section
/-! SUPPORT. The rows as a whole: a packet row is the act of its kind's owner, and most other rows leave the receiver
and the queue alone. -/

namespace Sys2Proof.Machine

open Sys2Proof.Laws.PacketRow (packet)

/-! ## Packet rows -/

/-- A packet row is the act of the block that owns its kind (R13). -/
theorem exec_of_packet {c : Instr} {kind : PacketKind} {broadcast : Bool} {payload : List Byte}
    (h : packet c = some (kind, broadcast, payload)) (s : State) :
    exec c s = .next (ownerActs kind broadcast payload s) := by
  cases c <;> cases h <;> rfl

/-- The dispatch table's command for a kind is the act of the kind's owner (R13). -/
theorem exec_packetCommand (kind : PacketKind) (broadcast : Bool) (payload : List Byte) (s : State) :
    exec (packetCommand kind broadcast payload) s = .next (ownerActs kind broadcast payload s) := by
  cases kind with
  | query => cases h : isReadQuery payload <;> simp only [packetCommand, h] <;> rfl
  | _ => rfl

/-! ## What an owner leaves alone -/

/-- Two receivers alike in everything but their counters and last refusal. -/
structure Receiver.SameAssembly (r q : Receiver) : Prop where
  interval : r.interval = q.interval
  assembly : r.assembly = q.assembly
  buffer : r.buffer = q.buffer
  declared : r.declared = q.declared
  check : r.check = q.check
  received : r.received = q.received

theorem Receiver.SameAssembly.refl (r : Receiver) : r.SameAssembly r := ⟨rfl, rfl, rfl, rfl, rfl, rfl⟩

/-- What no owner does: take a waiting command, or move a packet in assembly otherwise than by the receiver's soft reset
(R14, R16, R188). -/
def OwnerKeeps (s t : State) : Prop :=
  t.pending = s.pending ∧
    (t.receiver.SameAssembly s.receiver ∨ t.receiver.SameAssembly s.receiver.softReset)

theorem OwnerKeeps.refl (s : State) : OwnerKeeps s s := ⟨rfl, .inl (.refl _)⟩

theorem OwnerKeeps.of_eq {s u t : State} (h : OwnerKeeps s u) (hp : t.pending = u.pending)
    (hr : t.receiver = u.receiver) : OwnerKeeps s t := by
  unfold OwnerKeeps at *
  rwa [hp, hr]

theorem OwnerKeeps.refuse {s u : State} (h : OwnerKeeps s u) (code : RefusalCode) (kind : PacketKind) :
    OwnerKeeps s (refuse code kind u) := by
  refine ⟨h.1, h.2.imp ?_ ?_⟩ <;>
    exact fun e => ⟨e.interval, e.assembly, e.buffer, e.declared, e.check, e.received⟩

theorem OwnerKeeps.endDrain {s u : State} (h : OwnerKeeps s u) (c : LoadChannel) : OwnerKeeps s (endDrain c u) := by
  rw [endDrain_eq]
  exact h.of_eq rfl rfl

theorem OwnerKeeps.write (payload : List Byte) (s : State) : OwnerKeeps s (write payload s) := by
  rcases write_cases payload s with ⟨code, e⟩ | ⟨c, -, -, -, hw⟩
  · rw [e]
    exact (OwnerKeeps.refl s).refuse _ _
  · have entries : OwnerKeeps s (placeCursor c.table (writeEntries c.table
        (chunks c.table.entryBytes (payload.length / c.table.entryBytes) payload) c.index s)) := by
      refine OwnerKeeps.of_eq (writeEntries_keeps (P := fun _ t => OwnerKeeps s t) ?_ _ _ _ (.refl s)) rfl rfl
      intro _ index u _ hu _ _
      rcases writeEffect_cases c.table index (u.setSetup _) with ⟨-, e⟩ | ⟨-, e⟩ | ⟨-, -, e⟩ <;> rw [e] <;>
        exact hu.of_eq rfl rfl
    rcases hw with e | ⟨code, e⟩ <;> rw [e]
    · exact entries
    · exact entries.refuse _ _

theorem ownerActs_ownerKeeps (kind : PacketKind) (broadcast : Bool) (payload : List Byte) (s : State) :
    OwnerKeeps s (ownerActs kind broadcast payload s) := by
  have keep {t : State} (hp : t.pending = s.pending) (hr : t.receiver = s.receiver) : OwnerKeeps s t :=
    (OwnerKeeps.refl s).of_eq hp hr
  refine ownerActs_keeps broadcast payload (OwnerKeeps.refl s) (fun u code kind h => h.refuse code kind) ?select
    (.write payload s) ?query ?stage ?sealing (keep rfl rfl) (keep rfl rfl) (fun _ => keep rfl rfl) ?status ?time
    ?restart ?opening ?data ?ending ?abort ?node ⟨rfl, .inl ⟨rfl, rfl, rfl, rfl, rfl, rfl⟩⟩ ?reset kind
  case select => intro t h; obtain ⟨_, -, rfl⟩ := select_ok h; exact keep rfl rfl
  case query => intro t h; obtain ⟨-, rfl | ⟨_, rfl⟩⟩ := query_ok h <;> exact keep rfl rfl
  case stage => intro t h; obtain ⟨_, -, rfl⟩ := stage_ok h; exact keep rfl rfl
  case sealing => intro t h; obtain ⟨_, -, -, rfl⟩ := sealBatch_ok h; exact keep rfl rfl
  case status => intro t h; obtain ⟨_, -, rfl⟩ := statusNow_ok h; exact keep rfl rfl
  case time => intro t h; obtain ⟨-, rfl⟩ | ⟨-, _, _, -, -, rfl⟩ := setTime_ok h <;> exact keep rfl rfl
  case restart => intro t h; obtain ⟨_, rfl⟩ := groupRestart_ok h; exact keep rfl rfl
  case opening => intro t h; obtain ⟨_, _, _, -, -, -, -, rfl⟩ := loadOpen_ok h; exact keep rfl rfl
  case data => 
    intro t h; obtain ⟨_, -, -, rfl⟩ := loadData_ok h
    refine .endDrain (keep ?_ ?_) _ <;> rfl
  case ending => 
    intro t h; obtain ⟨_, -, rfl⟩ := loadEnd_ok h
    refine .endDrain (keep ?_ ?_) _ <;> rfl
  case abort => intro t h; obtain rfl | ⟨_, -, rfl⟩ := loadAbort_ok h <;> exact keep rfl rfl
  case node => intro t h; obtain ⟨_, -, rfl⟩ := setNode_ok h; exact keep rfl rfl
  case reset => exact ⟨softResetBlocks_pending s, .inr (by rw [softResetBlocks_receiver]; exact .refl _)⟩

/-! ## Rows that leave receiver and queue alone -/

/-- The rows that are neither a packet nor a reset nor anything the receiver takes part in. -/
def bystander : Instr → Bool
  | .resetComplete | .generatorFrameEnd | .groupStep _ | .stallAbort _ | .completionEvent | .lineOutputStart _
  | .lineFetchComplete | .grant _ | .windowClose | .drainEnd _ | .replyStart _ | .replyTimeout | .collision | .replyEnd
  | .clockAdvance _ => true
  | _ => false

/-- The next state, where there is one, keeps the receiver and the queue. -/
def LeavesReceiver (s : State) (r : Result) : Prop :=
  ∀ t, r = .next t → t.receiver = s.receiver ∧ t.pending = s.pending

theorem LeavesReceiver.next {s t : State} (hr : t.receiver = s.receiver) (hp : t.pending = s.pending) :
    LeavesReceiver s (.next t) := by
  rintro _ ⟨⟩
  exact ⟨hr, hp⟩

@[simp] theorem endDrain_receiver (c : LoadChannel) (s : State) : (endDrain c s).receiver = s.receiver := by
  rw [endDrain_eq]; rfl
@[simp] theorem endDrain_pending (c : LoadChannel) (s : State) : (endDrain c s).pending = s.pending := by
  rw [endDrain_eq]; rfl

theorem grant_leavesReceiver (check : ReadCheck) (s : State) : LeavesReceiver s (exec (.grant check) s) := by
  rcases execGrant_cases check s with ⟨-, e⟩ | ⟨-, e⟩ | ⟨c, -, e⟩ <;> rw [e]
  · exact .next rfl rfl
  · rcases readBurst_cases check (s.setArbiter (windowAfter s false)) with
      ⟨-, e⟩ | ⟨_, _, -, ⟨-, e⟩ | ⟨-, ⟨-, e⟩ | ⟨-, e⟩ | ⟨-, e⟩⟩⟩ <;> rw [e]
    case inr.inl => rintro _ ⟨⟩
    all_goals exact .next rfl rfl
  · rcases writeBurst_cases c (s.setArbiter (windowAfter s true)) with ⟨-, e⟩ | ⟨_, _, -, ⟨-, e⟩ | ⟨-, e⟩⟩ <;> rw [e]
    · exact .next rfl rfl
    · rintro _ ⟨⟩
    · exact .next (by simp) (by simp)

theorem lineOutputStart_leavesReceiver (input : List Rgb) (s : State) :
    LeavesReceiver s (exec (.lineOutputStart input) s) := by
  show LeavesReceiver s (execLineOutputStart input s)
  rcases execLineOutputStart_cases input s with ⟨-, e⟩ | ⟨-, e⟩ | e <;> rw [e]
  · exact .next (by rw [fetchLine_receiver, composeLine_eq]; rfl) (by rw [fetchLine_pending, composeLine_eq]; rfl)
  · exact .next rfl rfl
  · exact .next rfl rfl

theorem replyStart_leavesReceiver (readings : List Bool) (s : State) :
    LeavesReceiver s (exec (.replyStart readings) s) := by
  show LeavesReceiver s (execReplyStart readings s)
  rcases execReplyStart_cases readings s with e | ⟨_, _, _, _, _, -, -, ⟨-, -, e⟩ | e⟩ <;> rw [e] <;>
    exact .next rfl rfl

/-- A bystander's row keeps the receiver and the queue. -/
theorem exec_bystander {c : Instr} (h : bystander c = true) (s : State) : LeavesReceiver s (exec c s) := by
  cases c with
  | resetComplete => refine .next ?_ ?_ <;> split <;> simp
  | generatorFrameEnd => refine .next ?_ ?_ <;> split <;> simp
  | groupStep _ => refine .next ?_ ?_ <;> split <;> rfl
  | completionEvent => refine .next ?_ ?_ <;> split <;> rfl
  | stallAbort _ => exact .next rfl rfl
  | lineFetchComplete => exact .next rfl rfl
  | windowClose => exact .next rfl rfl
  | clockAdvance _ => exact .next rfl rfl
  | drainEnd _ => exact .next (endDrain_receiver _ s) (endDrain_pending _ s)
  | lineOutputStart input => exact lineOutputStart_leavesReceiver input s
  | grant check => exact grant_leavesReceiver check s
  | replyStart readings => exact replyStart_leavesReceiver readings s
  | replyTimeout => refine .next ?_ ?_ <;> (split <;> [(split <;> rfl); rfl])
  | collision => refine .next ?_ ?_ <;> (split <;> [(split <;> rfl); rfl])
  | replyEnd => refine .next ?_ ?_ <;> (split <;> [(split <;> rfl); rfl])
  | _ => cases h

/-! ## Rows of the timing unit -/

theorem unlockedStart_eq (l : List Measurement) (m : Option Measurement) (s : State) :
    ∃ t, unlockedStart l m s = s.setTiming t := by
  unfold unlockedStart
  split
  · exact ⟨_, rfl⟩
  · split
    · exact ⟨s.timing, rfl⟩
    · exact ⟨_, rfl⟩

theorem lockedStart_cases (m : Option Measurement) (s : State) :
    (∃ t, lockedStart m s = s.setTiming t) ∨
      ∃ source t, lockedStart m s = frameBoundary source (s.setTiming t) := by
  unfold lockedStart
  split
  · exact .inr ⟨_, _, rfl⟩
  · exact .inl ⟨_, rfl⟩
  · exact .inl ⟨_, rfl⟩
  · exact .inl ⟨_, rfl⟩
  · exact .inr ⟨_, _, rfl⟩

/-- An input frame start changes the timing unit, and may be a frame boundary besides (R22 to R25). -/
theorem takeFrameStart_cases (further : Nat) (s : State) :
    (∃ t, takeFrameStart further s = s.setTiming t) ∨
      ∃ source t, takeFrameStart further s = frameBoundary source (s.setTiming t) := by
  unfold takeFrameStart
  split
  · exact .inl ⟨_, rfl⟩
  · exact .inl ⟨_, rfl⟩
  · exact .inl (unlockedStart_eq _ _ (s.setTiming _))
  · exact .inl (unlockedStart_eq _ _ (s.setTiming _))
  · exact lockedStart_cases _ (s.setTiming _)

@[simp] theorem takeFrameStart_receiver (further : Nat) (s : State) :
    (takeFrameStart further s).receiver = s.receiver := by
  rcases takeFrameStart_cases further s with ⟨_, e⟩ | ⟨_, _, e⟩ <;> simp [e]

@[simp] theorem takeFrameStart_pending (further : Nat) (s : State) :
    (takeFrameStart further s).pending = s.pending := by
  rcases takeFrameStart_cases further s with ⟨_, e⟩ | ⟨_, _, e⟩ <;> simp [e]

@[simp] theorem blankFrame_receiver (s : State) : (blankFrame s).receiver = s.receiver := by
  unfold blankFrame; split <;> rfl

@[simp] theorem blankFrame_pending (s : State) : (blankFrame s).pending = s.pending := by
  unfold blankFrame; split <;> rfl

/-- What the rows that end or open a blanking interval can leave of the receiver and the queue: nothing changes, or the
interval ends and, at an input frame start, another is open (R10, R34). -/
theorem exec_interval {c : Instr} {s t : State}
    (hc : (∃ a b, c = .inputFrameStart a b) ∨ c = .inputTimeout ∨ ∃ width, c = .firstActiveLine width)
    (h : exec c s = .next t) :
    t.pending = s.pending ∧ (t.receiver = s.receiver ∨ t.receiver = s.receiver.endInterval ∨
      t.receiver = { s.receiver.endInterval with interval := true }) := by
  obtain ⟨a, b, rfl⟩ | rfl | ⟨width, rfl⟩ := hc
  · cases h
    split
    · exact ⟨rfl, .inl rfl⟩
    · exact ⟨takeFrameStart_pending a _, .inr (.inr (takeFrameStart_receiver a _))⟩
  · cases h
    split
    · dsimp only
      split <;> simp
    · exact ⟨rfl, .inl rfl⟩
  · cases h
    split
    · exact ⟨blankFrame_pending _, .inr (.inl (blankFrame_receiver _))⟩
    · exact ⟨rfl, .inl rfl⟩

end Sys2Proof.Machine
end

section
/-! PROOFS. No command touches the queue or is refused by the model, and only GRANT faults. -/

namespace Sys2Proof.Machine

open Sys2Proof.Laws.PacketRow (packet)

/-- Only GRANT can fault, and no row is refused by the model: every other row has a next state. -/
theorem exec_next_or_grant (c : Instr) (s : State) :
    (∃ t, exec c s = .next t) ∨ ∃ check f, c = .grant check ∧ exec c s = .fault f := by
  cases c with
  | grant check =>
    rcases execGrant_cases check s with ⟨-, e⟩ | ⟨-, e⟩ | ⟨c, -, e⟩
    · exact .inl ⟨_, e⟩
    · rcases readBurst_cases check (s.setArbiter (windowAfter s false)) with
        ⟨-, e'⟩ | ⟨_, _, -, ⟨-, e'⟩ | ⟨-, ⟨-, e'⟩ | ⟨-, e'⟩ | ⟨-, e'⟩⟩⟩
      case inr.inl => exact .inr ⟨_, _, rfl, e.trans e'⟩
      all_goals exact .inl ⟨_, e.trans e'⟩
    · rcases writeBurst_cases c (s.setArbiter (windowAfter s true)) with ⟨-, e'⟩ | ⟨_, _, -, ⟨-, e'⟩ | ⟨-, e'⟩⟩
      · exact .inl ⟨_, e.trans e'⟩
      · exact .inr ⟨_, _, rfl, e.trans e'⟩
      · exact .inl ⟨_, e.trans e'⟩
  | _ => exact .inl ⟨_, rfl⟩

theorem exec_pending {c : Instr} {s t : State} (h : exec c s = .next t) : t.pending = s.pending := by
  cases hp : packet c with
  | some q =>
    obtain ⟨kind, broadcast, payload⟩ := q
    rw [exec_of_packet hp] at h
    cases h
    exact (ownerActs_ownerKeeps kind broadcast payload s).1
  | none =>
    by_cases hb : bystander c = true
    · exact (exec_bystander hb s t h).2
    · cases c with
      | powerOn straps => cases h; rfl
      | boardReset straps => cases h; rfl
      | badKind kind => cases h; rfl
      | carrierLine pixels =>
        exact carrierLine_keeps (P := fun u => u.pending = s.pending) (fun _ _ hu => hu) (fun _ hu => hu)
          (fun kind broadcast payload u hu => (ownerActs_ownerKeeps kind broadcast payload u).1.trans hu) rfl h
      | firstActiveLine width => exact (exec_interval (.inr (.inr ⟨width, rfl⟩)) h).1
      | inputFrameStart a b => exact (exec_interval (.inl ⟨a, b, rfl⟩) h).1
      | inputTimeout => exact (exec_interval (.inr (.inl rfl)) h).1
      | _ => simp [packet, bystander] at hp hb

/-- Settles O2: a row either has a next state, which keeps the queue, or is a GRANT that faults. -/
theorem commandsComplete : Obligations.CommandsComplete := by
  unfold Obligations.CommandsComplete
  intro c s
  refine ⟨fun t => exec_pending, fun r hr => ?_, fun f hf => ?_⟩
  · rcases exec_next_or_grant c s with ⟨t, e⟩ | ⟨_, f, -, e⟩ <;> cases hr.symm.trans e
  · rcases exec_next_or_grant c s with ⟨t, e⟩ | ⟨check, _, hc, -⟩
    · cases hf.symm.trans e
    · exact ⟨check, hc⟩

end Sys2Proof.Machine
end

section
/-! PROOFS. The Carrier Receiver stays legal: its moves one by one, then a carrier line, then every row. -/

namespace Sys2Proof.Machine

open Sys2Proof.Laws.PacketRow (packet)

/-! ## The receiver's own moves -/

@[simp] theorem crc_nil : crc [] = 0xFFFF := rfl

@[simp] theorem crc_append_byte (bytes : List Byte) (v : Byte) : crc (bytes ++ [v]) = crcByte (crc bytes) v := by
  simp [crc]

/-- The declared length stands in the header, whatever follows it (R4). -/
theorem declaredLength_append {header : List Byte} (h : 4 ≤ header.length) (rest : List Byte) :
    declaredLength (header ++ rest) = declaredLength header := by
  unfold declaredLength field
  rw [List.drop_append_of_le_length (by omega), List.take_append_of_le_length (by simp; omega)]

/-- In HUNT the receiver owes nothing but room for the longest packet. -/
theorem ReceiverLegal.of_hunt {s : State} (ha : s.receiver.assembly = .hunt) (hb : s.receiver.buffer.length ≤ 1028) :
    ReceiverLegal s :=
  ⟨hb, by simp [ha], by simp [ha], by simp [ha], by simp [ha], by simp [ha]⟩

/-- Legality reads the packet in assembly alone. -/
theorem ReceiverLegal.of_same {s t : State} (h : ReceiverLegal s) (e : t.receiver.SameAssembly s.receiver) :
    ReceiverLegal t := by
  obtain ⟨hi, ha, hb, hd, hc, hr⟩ := e
  obtain ⟨room, hunt, check, header, payload, ending⟩ := h
  constructor <;> simpa only [hi, ha, hb, hd, hc, hr]

theorem ReceiverLegal.of_receiver_eq {s t : State} (h : ReceiverLegal s) (e : t.receiver = s.receiver) :
    ReceiverLegal t := h.of_same (e ▸ .refl _)

/-- The end of an interval leaves no packet in assembly (R10). -/
theorem ReceiverLegal.endInterval {s t : State} (h : ReceiverLegal s) {still : Bool}
    (e : t.receiver = { s.receiver.endInterval with interval := still }) : ReceiverLegal t := by
  have hunt : s.receiver.endInterval.assembly = .hunt ∧ s.receiver.endInterval.buffer.length ≤ 1028 := by
    unfold Receiver.endInterval
    split
    · exact ⟨rfl, by simp [Receiver.drop]⟩
    · rename_i hn
      refine ⟨?_, h.room⟩
      by_contra ha
      exact hn ⟨h.hunt ha, ha⟩
  exact .of_hunt (by rw [e]; exact hunt.1) (by rw [e]; exact hunt.2)

/-- A legal receiver within an interval: what stands between two symbols of a carrier line. -/
structure Listens (s : State) : Prop where
  legal : ReceiverLegal s
  interval : s.receiver.interval = true

theorem Listens.start {s : State} (h : Listens s) : Listens (s.setReceiver s.receiver.start) := by
  unfold Receiver.start Receiver.beginPacket
  split <;> exact ⟨⟨by simp, by simp [h.interval], by simp, by simp, by simp, by simp⟩, by simp [h.interval]⟩

theorem Listens.symbolError {s : State} (h : Listens s) : Listens (s.setReceiver s.receiver.symbolError) := by
  unfold Receiver.symbolError Receiver.drop
  split
  · exact h
  · exact ⟨.of_hunt rfl (by simp), h.interval⟩

/-- A header byte keeps the header short of four bytes, or settles the declared length (R4). -/
theorem Listens.headerByte {s : State} (h : Listens s) (ha : s.receiver.assembly = .header) (v : Byte) :
    Listens (s.setReceiver (s.receiver.headerByte v)) := by
  obtain ⟨hlen, hdecl, hrecv⟩ := h.legal.header ha
  have hcheck := h.legal.check (by simp [ha])
  have hi := h.interval
  unfold Receiver.headerByte Receiver.append
  split
  · rename_i h4
    simp only [List.length_append, List.length_cons, List.length_nil] at h4
    unfold Receiver.headerDone
    split
    · exact ⟨.of_hunt rfl (by simp [Receiver.drop]), hi⟩
    · rename_i hfit
      simp only at hfit
      have hpay := fun hne : declaredLength (s.receiver.buffer ++ [v]) ≠ 0 => Nat.pos_of_ne_zero hne
      refine ⟨⟨by simp; omega, fun _ => hi, fun _ => by simp [hcheck], ?_, ?_, ?_⟩, hi⟩
      · simp only [State.setReceiver_receiver]
        split <;> simp
      · simp only [State.setReceiver_receiver]
        split
        · simp
        · rename_i hne
          exact fun _ => ⟨_, rfl, by omega, rfl, by simp; omega, by simp; omega, hrecv⟩
      · simp only [State.setReceiver_receiver]
        split
        · exact fun _ => ⟨_, rfl, by omega, rfl, by simp; omega, by simp [hrecv]⟩
        · simp
  · rename_i h4
    simp only [List.length_append, List.length_cons, List.length_nil] at h4
    exact ⟨⟨by simp; omega, fun _ => hi, fun _ => by simp [hcheck], fun _ => ⟨by simp; omega, hdecl, hrecv⟩,
      by simp [ha], by simp [ha]⟩, hi⟩

/-- A payload byte leaves the payload short of its declared length, or completes it (R5). -/
theorem Listens.payloadByte {s : State} (h : Listens s) (ha : s.receiver.assembly = .payload) (v : Byte) :
    Listens (s.setReceiver (s.receiver.payloadByte v)) := by
  obtain ⟨l, hdecl, hfit, hl, h4, hlt, hrecv⟩ := h.legal.payload ha
  have hcheck := h.legal.check (by simp [ha])
  have hi := h.interval
  have hl' : l = declaredLength (s.receiver.buffer ++ [v]) := by rw [declaredLength_append h4, hl]
  unfold Receiver.payloadByte Receiver.append
  simp only [hdecl, Option.getD_some]
  split <;> rename_i hend <;> simp only [List.length_append, List.length_cons, List.length_nil] at hend
  · exact ⟨⟨by simp; omega, fun _ => hi, fun _ => by simp [hcheck], by simp, by simp,
      fun _ => ⟨l, rfl, hfit, hl', by simp; omega, by simp [hrecv]⟩⟩, hi⟩
  · exact ⟨⟨by simp; omega, fun _ => hi, fun _ => by simp [hcheck], by simp [ha],
      fun _ => ⟨l, rfl, hfit, hl', by simp; omega, by simp; omega, hrecv⟩, by simp [ha]⟩, hi⟩

/-! ## The hand-over -/

theorem ReceiverLegal.ownerActs {s : State} (h : ReceiverLegal s) (kind : PacketKind) (broadcast : Bool)
    (payload : List Byte) : ReceiverLegal (ownerActs kind broadcast payload s) := by
  rcases (ownerActs_ownerKeeps kind broadcast payload s).2 with e | e
  · exact h.of_same e
  · exact .of_hunt e.assembly (by rw [e.buffer]; exact Nat.zero_le _)

/-- No packet ends or opens the interval it arrives in; a soft reset goes on listening (R17). -/
theorem ownerActs_interval (kind : PacketKind) (broadcast : Bool) (payload : List Byte) (s : State) :
    (ownerActs kind broadcast payload s).receiver.interval = s.receiver.interval := by
  rcases (ownerActs_ownerKeeps kind broadcast payload s).2 with e | e <;> exact e.interval

theorem Listens.packetDone {s : State} (hi : s.receiver.interval = true) (hb : s.receiver.buffer.length ≤ 1028) :
    Listens (packetDone s) := by
  rcases packetDone_cases s with e | ⟨u, rfl, ⟨code, e⟩ | ⟨kind, broadcast, e⟩⟩ <;> rw [e]
  · exact ⟨.of_hunt rfl hb, hi⟩
  · exact ⟨.of_hunt rfl hb, hi⟩
  · refine ⟨.ownerActs (.of_hunt ?_ ?_) kind broadcast _, (ownerActs_interval kind broadcast _ _).trans hi⟩
    · rfl
    · exact hb

/-- The first check byte waits; the second ends the packet, which is discarded, ignored or handed over (R5, R7). -/
theorem Listens.checkByte {s : State} (h : Listens s) (ha : s.receiver.assembly = .check) (v : Byte) :
    Listens (checkByte v s) := by
  obtain ⟨l, hdecl, hfit, hl, hlen, -⟩ := h.legal.ending ha
  unfold Machine.checkByte
  simp only
  split
  · exact ⟨⟨h.legal.room, h.legal.hunt, h.legal.check, by simp [ha], by simp [ha],
      fun _ => ⟨l, hdecl, hfit, hl, hlen, by simp⟩⟩, h.interval⟩
  · split
    · exact .packetDone h.interval h.legal.room
    · exact ⟨.of_hunt rfl (by simp [Receiver.drop]), h.interval⟩

/-! ## A carrier line -/

theorem Listens.takeSymbol {s : State} (h : Listens s) (p : Rgb) : Listens (takeSymbol s p) := by
  unfold Machine.takeSymbol
  split
  · unfold dataSymbol
    split
    · exact h
    · exact h.headerByte (by assumption) _
    · exact h.payloadByte (by assumption) _
    · exact h.checkByte (by assumption) _
  · exact h.start
  · exact h
  · exact h.symbolError

theorem Listens.symbols {s : State} (h : Listens s) (symbols : List Rgb) :
    Listens (symbols.foldl Machine.takeSymbol s) := by
  induction symbols generalizing s with
  | nil => exact h
  | cons p _ ih => exact ih (h.takeSymbol p)

theorem carrierLine_receiverLegal {pixels : List Rgb} {s t : State} (h : ReceiverLegal s)
    (ht : exec (.carrierLine pixels) s = .next t) : ReceiverLegal t := by
  cases ht
  split
  · have counted : Listens (countBlankingLine s) := ⟨h.of_receiver_eq rfl, by assumption⟩
    split
    · exact (counted.symbols _).legal
    · exact counted.legal
  · exact h

/-! ## Every row -/

theorem exec_receiverLegal {c : Instr} {s t : State} (h : ReceiverLegal s) (ht : exec c s = .next t) :
    ReceiverLegal t := by
  cases hp : packet c with
  | some q =>
    obtain ⟨kind, broadcast, payload⟩ := q
    rw [exec_of_packet hp] at ht
    cases ht
    exact h.ownerActs kind broadcast payload
  | none =>
    by_cases hb : bystander c = true
    · exact h.of_receiver_eq (exec_bystander hb s t ht).1
    · have interval (hc : (∃ a b, c = .inputFrameStart a b) ∨ c = .inputTimeout ∨ ∃ width, c = .firstActiveLine width) :
          ReceiverLegal t := by
        rcases (exec_interval hc ht).2 with e | e | e
        · exact h.of_receiver_eq e
        · exact h.endInterval (still := s.receiver.endInterval.interval) e
        · exact h.endInterval e
      cases c with
      | powerOn straps => cases ht; exact .of_hunt rfl (Nat.zero_le _)
      | boardReset straps => cases ht; exact .of_hunt rfl (Nat.zero_le _)
      | badKind kind => cases ht; exact h.of_same ⟨rfl, rfl, rfl, rfl, rfl, rfl⟩
      | carrierLine pixels => exact carrierLine_receiverLegal h ht
      | firstActiveLine width => exact interval (.inr (.inr ⟨width, rfl⟩))
      | inputFrameStart a b => exact interval (.inl ⟨a, b, rfl⟩)
      | inputTimeout => exact interval (.inr (.inl rfl))
      | _ => simp [packet, bystander] at hp hb

/-- Settles O10, by the rows: the receiver's own moves keep its parts in agreement, and no other row moves a packet in
assembly but to end it. -/
theorem receiverStaysLegal : Obligations.ReceiverStaysLegal := by
  unfold Obligations.ReceiverStaysLegal
  intro s t h ht
  unfold step at ht
  split at ht
  · cases ht; exact h
  · rename_i rest _
    exact exec_receiverLegal (s := s.setPending rest) (h.of_receiver_eq rfl) ht

end Sys2Proof.Machine
end

section
/-! SUPPORT. Bytes and numbers, and the running check as a CRC (R6). -/

namespace Sys2Proof.Machine

/-! ## Bytes and numbers -/

@[simp] theorem leBytes_length (n v : Nat) : (leBytes n v).length = n := by
  induction n generalizing v with
  | zero => rfl
  | succ n ih => simp [leBytes, ih]

/-- The low bytes of a number spell the number as far as they reach (chapter 00, Byte order). -/
theorem leNat_leBytes (n v : Nat) : leNat (leBytes n v) = v % 256 ^ n := by
  induction n generalizing v with
  | zero => simp [leBytes, leNat, Nat.mod_one]
  | succ n ih =>
    have hp : 256 ^ (n + 1) = 256 * 256 ^ n := Nat.pow_succ'
    rw [leBytes, leNat, ih, BitVec.toNat_ofNat, hp, Nat.mod_mul]

@[simp] theorem word16Bytes_length (w : Word16) : (word16Bytes w).length = 2 := leBytes_length 2 _

@[simp] theorem leNat_word16Bytes (w : Word16) : leNat (word16Bytes w) = w.toNat := by
  rw [word16Bytes, leNat_leBytes]
  exact Nat.mod_eq_of_lt w.isLt

/-! ## The check (R6) -/

theorem crcShift_xor (c d : Word16) : crcShift (c ^^^ d) = crcShift c ^^^ crcShift d := by
  unfold crcShift
  rw [BitVec.msb_xor, BitVec.shiftLeft_xor_distrib]
  cases c.msb <;> cases d.msb <;> simp only [Bool.bne_true, Bool.bne_false, Bool.not_true, Bool.not_false,
    Bool.false_eq_true, ↓reduceIte]
  · rw [BitVec.xor_assoc]
  · rw [BitVec.xor_assoc, BitVec.xor_assoc, BitVec.xor_comm (d <<< 1)]
  · rw [BitVec.xor_assoc, BitVec.xor_comm 0x1021#16, BitVec.xor_assoc, BitVec.xor_self, BitVec.xor_zero]

theorem crcShifts_xor (n : Nat) (c d : Word16) : crcShifts n (c ^^^ d) = crcShifts n c ^^^ crcShifts n d := by
  induction n generalizing c d with
  | zero => rfl
  | succ n ih => rw [crcShifts, crcShift_xor, ih]; rfl

/-- Folding bytes into the register is linear over exclusive-or (R6). -/
theorem crcByte_xor (c d : Word16) (v w : Byte) : crcByte (c ^^^ d) (v ^^^ w) = crcByte c v ^^^ crcByte d w := by
  unfold crcByte
  rw [← crcShifts_xor, BitVec.setWidth_xor, BitVec.shiftLeft_xor_distrib]
  congr 1
  rw [BitVec.xor_assoc, BitVec.xor_assoc, ← BitVec.xor_assoc d, BitVec.xor_comm d, BitVec.xor_assoc]

/-- Places shifted out as zeros feed nothing back. -/
theorem crcShifts_of_lt (n : Nat) (c : Word16) (h : c.toNat * 2 ^ n < 2 ^ 16) : crcShifts n c = c <<< n := by
  induction n generalizing c with
  | zero => simp [crcShifts]
  | succ n ih =>
    rw [Nat.pow_succ'] at h
    have hpos : 1 ≤ 2 ^ n := Nat.one_le_two_pow
    have hlow : c.toNat * 2 < 2 ^ 16 := by nlinarith
    have hmsb : c.msb = false := by
      rw [BitVec.msb_eq_decide, decide_eq_false_iff_not]
      omega
    have hshift : crcShift c = c <<< 1 := by simp [crcShift, hmsb]
    have hnat : (c <<< 1).toNat = c.toNat * 2 := by
      rw [BitVec.toNat_shiftLeft, Nat.shiftLeft_eq]
      exact Nat.mod_eq_of_lt hlow
    rw [crcShifts, hshift, ih _ (by rw [hnat]; linarith [Nat.mul_assoc c.toNat 2 (2 ^ n)]), ← BitVec.shiftLeft_add,
      Nat.add_comm]

/-- A register is its two bytes, the high one eight places up. -/
theorem word16_eq_bytes (c : Word16) :
    c = ((BitVec.ofNat 8 (c.toNat / 256)).setWidth 16 <<< 8) ^^^ (BitVec.ofNat 8 c.toNat).setWidth 16 := by
  refine BitVec.eq_of_getLsbD_eq fun i hi => ?_
  have hd : c.toNat / 256 = c.toNat / 2 ^ 8 := rfl
  simp only [BitVec.getLsbD_xor, BitVec.getLsbD_shiftLeft, BitVec.getLsbD_setWidth, BitVec.getLsbD_ofNat, hd,
    Nat.testBit_div_two_pow]
  by_cases h : i < 8
  · simp [h, hi, BitVec.getLsbD]
  · have h8 : i - 8 < 8 := by omega
    have h16 : i - 8 < 16 := by omega
    have hi8 : i - 8 + 8 = i := by omega
    simp [h, hi, h8, h16, hi8, BitVec.getLsbD]

/-- A register's own high byte folded in leaves its low byte, moved up. -/
theorem crcByte_high (c : Word16) :
    crcByte c (BitVec.ofNat 8 (c.toNat / 256)) = (BitVec.ofNat 8 c.toNat).setWidth 16 <<< 8 := by
  have hx : c ^^^ ((BitVec.ofNat 8 (c.toNat / 256)).setWidth 16 <<< 8) = (BitVec.ofNat 8 c.toNat).setWidth 16 := by
    nth_rewrite 1 [word16_eq_bytes c]
    rw [BitVec.xor_comm, ← BitVec.xor_assoc, BitVec.xor_self, BitVec.zero_xor]
  rw [crcByte, hx, crcShifts_of_lt]
  have := (BitVec.ofNat 8 c.toNat).isLt
  rw [BitVec.toNat_setWidth]
  omega

/-- The register folded with its own two bytes, high byte first, is 0 (R6). -/
theorem crcByte_crcByte_self (c : Word16) :
    crcByte (crcByte c (BitVec.ofNat 8 (c.toNat / 256))) (BitVec.ofNat 8 c.toNat) = 0 := by
  rw [crcByte_high, crcByte, BitVec.xor_self]
  rfl

theorem crc_append (a b : List Byte) : crc (a ++ b) = b.foldl crcByte (crc a) := by
  simp [crc]

/-- Settles O18: the check value is computed; the register shifts linearly; and a register folded with its own bytes has
its high byte cancelled, then its low byte. -/
theorem checkIsCcittCrc : Obligations.CheckIsCcittCrc := by
  unfold Obligations.CheckIsCcittCrc
  refine ⟨by decide +kernel, crcByte_xor, fun bytes => ?_⟩
  have hrev : (word16Bytes (crc bytes)).reverse =
      [BitVec.ofNat 8 ((crc bytes).toNat / 256), BitVec.ofNat 8 (crc bytes).toNat] := rfl
  rw [crc_append, hrev]
  exact crcByte_crcByte_self _

end Sys2Proof.Machine
end

section
/-! PROOFS. Carrier lines: the mark, the symbols, and what each symbol does in each assembly state (R1 to R9, R11). -/

namespace Sys2Proof.Machine

/-! ## The mark and the symbols of a line (R1) -/

theorem bearsMark_iff (pixels : List Rgb) :
    bearsMark (pixels.take lineBound) = true ↔ 17 ≤ pixels.length ∧ pixels.take 16 = markPixels := by
  have htake : (pixels.take lineBound).take 16 = pixels.take 16 := by rw [List.take_take]; rfl
  unfold bearsMark markPixels
  rw [htake, Bool.and_eq_true, decide_eq_true_eq, List.eq_replicate_iff]
  simp only [List.length_take, List.all_eq_true, beq_iff_eq, markColour, lineBound]
  constructor
  · rintro ⟨hl, hall⟩
    exact ⟨by omega, by omega, hall⟩
  · rintro ⟨hl, -, hall⟩
    exact ⟨by omega, hall⟩

theorem markPixels_length : markPixels.length = 16 := List.length_replicate

theorem bearsMark_mark_append {symbols : List Rgb} (h : symbols ≠ []) :
    bearsMark ((markPixels ++ symbols).take lineBound) = true := by
  rw [bearsMark_iff, List.length_append, markPixels_length, List.take_left' markPixels_length]
  have := List.length_pos_iff.2 h
  exact ⟨by omega, rfl⟩

theorem lineSymbols_mark_append (symbols : List Rgb) : lineSymbols (markPixels ++ symbols) = symbols.take 8176 := by
  unfold lineSymbols lineBound
  rw [List.take_append, markPixels_length, List.take_of_length_le (by rw [markPixels_length]; omega),
    List.drop_left' markPixels_length]

/-- A line with the mark is its symbols taken in turn (R1). -/
theorem exec_markedLine {s : State} (hi : s.receiver.interval = true) {symbols : List Rgb} (h : symbols ≠ []) :
    exec (.carrierLine (markPixels ++ symbols)) s =
      .next ((symbols.take 8176).foldl takeSymbol (countBlankingLine s)) := by
  show execCarrierLine _ s = _
  rw [execCarrierLine, if_pos hi, if_pos (bearsMark_mark_append h), lineSymbols_mark_append]

theorem exec_oneSymbol {s : State} (hi : s.receiver.interval = true) (p : Rgb) :
    exec (.carrierLine (markPixels ++ [p])) s = .next (takeSymbol (countBlankingLine s) p) :=
  exec_markedLine hi (List.cons_ne_nil p [])

@[simp] theorem countBlankingLine_receiver (s : State) : (countBlankingLine s).receiver = s.receiver := rfl

theorem unmarkedLinesAreOnlyCounted : Claims.UnmarkedLinesAreOnlyCounted := by
  refine ⟨fun pixels s hi => ?_, fun pixels s hi hmark => ?_⟩
  · show execCarrierLine pixels s = _
    rw [execCarrierLine, if_neg (by simp [hi])]
  · have hno : ¬ bearsMark (pixels.take lineBound) = true := by
      rw [bearsMark_iff]
      rintro ⟨hl, ht⟩
      exact hmark.elim (fun h => by omega) (fun h => h ht)
    show execCarrierLine pixels s = _
    rw [execCarrierLine, if_pos hi, if_neg hno]
    by_cases hs : s.timing.source = .input <;> simp [countBlankingLine, State.setTiming, countOne, hs]

/-- A carrier line is its symbols in turn (R1, R3, R5). -/
theorem linesAreTheirSymbols : Claims.LinesAreTheirSymbols :=
  ⟨fun p _ hi => exec_oneSymbol hi p, fun _ _ hi h => exec_markedLine hi h⟩

/-! ## What a pixel says (R2) -/

theorem red_green_sum (green : Byte) : (255 - green).toNat + green.toNat = 255 := by
  have := green.isLt
  rw [BitVec.toNat_sub]
  simp only [BitVec.ofNat_eq_ofNat, BitVec.toNat_ofNat]
  omega

theorem classify_dataPixel (v : Byte) : classify (dataPixel v) = .data v := by
  have hsum : (dataPixel v).red.toNat + (dataPixel v).green.toNat = 255 := red_green_sum v
  rw [classify, if_neg (not_not.2 hsum)]
  rfl

theorem classify_start (green : Byte) : classify ⟨255 - green, green, 0xF0⟩ = .start := by
  rw [classify, if_neg (not_not.2 (red_green_sum green))]
  rfl

theorem classify_idle (green : Byte) : classify ⟨255 - green, green, 0x0F⟩ = .idle := by
  rw [classify, if_neg (not_not.2 (red_green_sum green))]
  rfl

theorem classify_error {p : Rgb} (h : p.red.toNat + p.green.toNat ≠ 255 ∨ p.blue ∉ [(0x00 : Byte), 0xF0, 0x0F]) :
    classify p = .error := by
  unfold classify
  split
  · rfl
  · rename_i hsum
    have hb := h.resolve_left hsum
    simp only [List.mem_cons, List.not_mem_nil, or_false, not_or] at hb
    rw [if_neg hb.1, if_neg hb.2.1, if_neg hb.2.2]

/-! ## What a symbol does (R3 to R9) -/

@[simp] theorem takeSymbol_dataPixel (s : State) (v : Byte) : takeSymbol s (dataPixel v) = dataSymbol v s := by
  simp only [takeSymbol, classify_dataPixel]

theorem takeSymbol_start (s : State) (green : Byte) :
    takeSymbol s ⟨255 - green, green, 0xF0⟩ = s.setReceiver s.receiver.start := by
  simp only [takeSymbol, classify_start]

theorem Receiver.start_eq (r : Receiver) : r.start = { r with
    assembly := .header, buffer := [], declared := none, check := 0xFFFF, received := []
    aborted := if r.assembly = .hunt then r.aborted else bump r.aborted } := by
  unfold Receiver.start Receiver.beginPacket
  split <;> rfl

theorem dataSymbol_hunt {s : State} (h : s.receiver.assembly = .hunt) (v : Byte) : dataSymbol v s = s := by
  simp only [dataSymbol, h]

theorem dataSymbol_header {s : State} (h : s.receiver.assembly = .header) (v : Byte) :
    dataSymbol v s = s.setReceiver (s.receiver.headerByte v) := by
  simp only [dataSymbol, h]

theorem dataSymbol_payload {s : State} (h : s.receiver.assembly = .payload) (v : Byte) :
    dataSymbol v s = s.setReceiver (s.receiver.payloadByte v) := by
  simp only [dataSymbol, h]

theorem dataSymbol_check {s : State} (h : s.receiver.assembly = .check) (v : Byte) :
    dataSymbol v s = checkByte v s := by
  simp only [dataSymbol, h]

theorem symbolsInAssembly : Claims.SymbolsInAssembly := by
  intro s hi
  refine ⟨fun green => ?start, fun p hp => ?error, fun green => ?idle, fun v hunt => ?data⟩
  case start => rw [exec_oneSymbol hi, takeSymbol_start, Receiver.start_eq]; rfl
  case error =>
    rw [exec_oneSymbol hi, takeSymbol, classify_error hp]
    rfl
  case idle => rw [exec_oneSymbol hi, takeSymbol, classify_idle]
  case data => rw [exec_oneSymbol hi, takeSymbol_dataPixel, dataSymbol_hunt (s := countBlankingLine s) hunt]

/-! ## Header and payload bytes (R4, R5) -/

theorem Receiver.headerByte_short {r : Receiver} (h : r.buffer.length < 3) (v : Byte) :
    r.headerByte v = { r with buffer := r.buffer ++ [v], check := crcByte r.check v } := by
  rw [Receiver.headerByte, if_neg (by simp [Receiver.append]; omega)]
  rfl

/-- The length a header declares: its third byte and 256 times its fourth (R4). -/
theorem declaredLength_fourth {header : List Byte} (h : header.length = 3) (v : Byte) :
    declaredLength (header ++ [v]) = (byteAt header 2).toNat + 256 * v.toNat := by
  obtain ⟨a, b, c, rfl⟩ := List.length_eq_three.1 h
  rfl

/-- The fourth header byte settles the declared length (R4). -/
theorem Receiver.headerByte_fourth {r : Receiver} (h : r.buffer.length = 3) (v : Byte) {length : Nat}
    (hl : length = (byteAt r.buffer 2).toNat + 256 * v.toNat) :
    r.headerByte v = if 1024 < length then
      { r with check := crcByte r.check v, assembly := .hunt, buffer := [], overlength := bump r.overlength }
    else
      { r with buffer := r.buffer ++ [v], check := crcByte r.check v, declared := some length,
               assembly := if length = 0 then .check else .payload } := by
  have hd : declaredLength (r.append v).buffer = length := (declaredLength_fourth h v).trans hl.symm
  rw [Receiver.headerByte, if_pos (by simp [Receiver.append, h]), Receiver.headerDone, hd]
  rfl

theorem Receiver.payloadByte_eq {r : Receiver} (ha : r.assembly = .payload) {l : Nat} (hl : r.declared = some l)
    (v : Byte) : r.payloadByte v = { r with
      buffer := r.buffer ++ [v], check := crcByte r.check v
      assembly := if r.buffer.length + 1 < 4 + l then .payload else .check } := by
  unfold Receiver.payloadByte Receiver.append
  simp only [hl, Option.getD_some, List.length_append, List.length_cons, List.length_nil]
  by_cases h : 4 + l ≤ r.buffer.length + 1
  · rw [if_pos h, if_neg (by omega)]
  · rw [if_neg h, if_pos (by omega), ← ha]

theorem dataInAssembly : Claims.DataInAssembly := by
  intro v s hi
  have header (ha : s.receiver.assembly = .header) : exec (.carrierLine (markPixels ++ [dataPixel v])) s =
      .next ((countBlankingLine s).setReceiver (s.receiver.headerByte v)) := by
    rw [exec_oneSymbol hi, takeSymbol_dataPixel, dataSymbol_header (s := countBlankingLine s) ha]
    rfl
  refine ⟨fun ha hlen => ?_, fun ha hlen hover => ?_, fun ha hlen hfit => ?_, fun l ha hl => ?_⟩
  · rw [header ha, Receiver.headerByte_short hlen]
  · rw [header ha, Receiver.headerByte_fourth hlen v rfl, if_pos hover]
  · rw [header ha, Receiver.headerByte_fourth hlen v rfl, if_neg (Nat.not_lt.2 hfit)]
  · rw [exec_oneSymbol hi, takeSymbol_dataPixel, dataSymbol_payload (s := countBlankingLine s) ha,
      countBlankingLine_receiver, Receiver.payloadByte_eq ha hl]

/-! ## The check bytes and the hand-over (R5, R7, R11 to R15) -/

theorem kindOfCode_code (kind : PacketKind) : kindOfCode kind.code = some kind := by
  cases kind <;> rfl

theorem kindOfCode_unknown {code : Byte} (h : ∀ kind : PacketKind, kind.code ≠ code) : kindOfCode code = none := by
  simp [kindOfCode, h]

theorem takesPacket_iff (s : State) (destination : Byte) :
    takesPacket s destination = true ↔ destination.toNat = s.port.node.val ∨ destination = 15 := by
  simp [takesPacket, broadcastNode]

/-- A good packet that the node filter does not pass is ignored (R11). -/
theorem packetDone_ignored {s : State}
    (h : ¬ ((byteAt s.receiver.buffer 0).toNat = s.port.node.val ∨ byteAt s.receiver.buffer 0 = 15)) :
    packetDone s = s.setReceiver { s.receiver with assembly := .hunt } := by
  rw [← takesPacket_iff] at h
  rw [packetDone, if_neg h]

/-- One that it passes is counted as accepted and handed over (R11, R13). -/
theorem packetDone_taken {s : State}
    (h : (byteAt s.receiver.buffer 0).toNat = s.port.node.val ∨ byteAt s.receiver.buffer 0 = 15) :
    packetDone s = handOver (byteAt s.receiver.buffer 1) (byteAt s.receiver.buffer 0 == 15) (s.receiver.buffer.drop 4)
      (s.setReceiver { s.receiver with assembly := .hunt, accepted := bump s.receiver.accepted }) := by
  rw [← takesPacket_iff] at h
  rw [packetDone, if_pos h]
  rfl

/-- A packet of a known kind handed over is its kind's command (R13). -/
theorem next_handOver_known (kind : PacketKind) (broadcast : Bool) (payload : List Byte) (s : State) :
    .next (handOver kind.code broadcast payload s) = exec (packetCommand kind broadcast payload) s := by
  rw [exec_packetCommand, handOver, kindOfCode_code]

/-- One of an unknown kind is BAD_KIND (R15). -/
theorem next_handOver_unknown {code : Byte} (h : ∀ kind : PacketKind, kind.code ≠ code) (broadcast : Bool)
    (payload : List Byte) (s : State) :
    .next (handOver code broadcast payload s) = exec (.badKind code) s := by
  rw [handOver, kindOfCode_unknown h]
  rfl

theorem checkByte_first {s : State} (h : s.receiver.received = []) (v : Byte) :
    checkByte v s = s.setReceiver { s.receiver with received := [v] } := by
  simp only [checkByte, h]

theorem checkByte_second_bad {s : State} {low : Byte} (h : s.receiver.received = [low]) {v : Byte}
    (hv : low.toNat + 256 * v.toNat ≠ s.receiver.check.toNat) :
    checkByte v s = s.setReceiver { s.receiver with
      assembly := .hunt, received := [low, v], buffer := [], badCheck := bump s.receiver.badCheck } := by
  simp only [checkByte, h]
  rw [if_neg (show leNat [low, v] ≠ _ from hv)]
  rfl

theorem checkByte_second_good {s : State} {low : Byte} (h : s.receiver.received = [low]) {v : Byte}
    (hv : low.toNat + 256 * v.toNat = s.receiver.check.toNat) :
    checkByte v s = packetDone (s.setReceiver { s.receiver with received := [low, v] }) := by
  simp only [checkByte, h]
  rw [if_pos (show leNat [low, v] = _ from hv)]

section
variable {s : State} {low v : Byte} (h : s.receiver.received = [low])
  (hv : low.toNat + 256 * v.toNat = s.receiver.check.toNat)
include h hv

/-- A good packet for another node is ignored (R11). -/
theorem checkByte_second_other
    (hd : ¬ ((byteAt s.receiver.buffer 0).toNat = s.port.node.val ∨ byteAt s.receiver.buffer 0 = 15)) :
    checkByte v s = s.setReceiver { s.receiver with assembly := .hunt, received := [low, v] } := by
  rw [checkByte_second_good h hv, packetDone_ignored (by exact hd)]
  rfl

/-- A good packet for this node, or for every node, is accepted and handed over (R11, R13). -/
theorem checkByte_second_mine
    (hd : (byteAt s.receiver.buffer 0).toNat = s.port.node.val ∨ byteAt s.receiver.buffer 0 = 15) :
    checkByte v s = handOver (byteAt s.receiver.buffer 1) (byteAt s.receiver.buffer 0 == 15) (s.receiver.buffer.drop 4)
      (s.setReceiver { s.receiver with
        assembly := .hunt, received := [low, v], accepted := bump s.receiver.accepted }) := by
  rw [checkByte_second_good h hv, packetDone_taken (by exact hd)]
  rfl

end

theorem dataInCheck : Claims.DataInCheck := by
  intro v s hi ha
  have line : exec (.carrierLine (markPixels ++ [dataPixel v])) s = .next (checkByte v (countBlankingLine s)) := by
    rw [exec_oneSymbol hi, takeSymbol_dataPixel, dataSymbol_check (s := countBlankingLine s) ha]
  refine ⟨fun hr => ?first, fun low hr => ⟨fun hbad => ?bad, fun hgood hother => ?other, fun hgood hmine => ?mine⟩⟩
  case first => rw [line, checkByte_first (s := countBlankingLine s) hr]; rfl
  case bad => rw [line, checkByte_second_bad (s := countBlankingLine s) hr hbad]; rfl
  case other => rw [line, checkByte_second_other (s := countBlankingLine s) hr hgood hother]; rfl
  case mine =>
    have taken := line.trans (congrArg _ (checkByte_second_mine (s := countBlankingLine s) hr hgood hmine))
    refine ⟨fun kind hk => taken.trans ?_, fun hk => taken.trans (next_handOver_unknown hk _ _ _)⟩
    rw [countBlankingLine_receiver, ← hk]
    exact next_handOver_known _ _ _ _

/-- Settles O21: a marked line is its symbols in turn, and each symbol's equation is that of its assembly state. -/
theorem carrierSymbols : Obligations.CarrierSymbols :=
  ⟨unmarkedLinesAreOnlyCounted, symbolsInAssembly, dataInAssembly, dataInCheck, linesAreTheirSymbols⟩

end Sys2Proof.Machine
end

section
/-! PROOFS. A carrier line with one whole packet: header, payload and check bytes folded up in the receiver, then the
packet judged (R3 to R7, R11 to R15). -/

namespace Sys2Proof.Machine

/-! ## A packet's bytes folded up -/

/-- A receiver in whose buffer these bytes have come, each of them folded into the running check (R4, R5, R6). -/
def Receiver.joined (r : Receiver) (bytes : List Byte) : Receiver := { r with buffer := bytes, check := crc bytes }

/-- The same past the header of a packet of `n` payload bytes (R4, R5). -/
def Receiver.reading (r : Receiver) (bytes : List Byte) (n : Nat) : Receiver :=
  { r.joined bytes with
    declared := some n, assembly := if bytes.length < 4 + n then .payload else .check }

/-- Right behind the header the payload is read, unless it is empty (R4). -/
theorem Receiver.reading_header (r : Receiver) {header : List Byte} (h : header.length = 4) (n : Nat) :
    r.reading header n =
      { r.joined header with declared := some n, assembly := if n = 0 then .check else .payload } := by
  have ha : (if header.length < 4 + n then Assembly.payload else .check) = if n = 0 then .check else .payload := by
    by_cases hn : n = 0
    · rw [if_pos hn, if_neg (by omega)]
    · rw [if_neg hn, if_pos (by omega)]
  rw [Receiver.reading, ha]

theorem Receiver.start_joined (r : Receiver) : r.start.joined [] = r.start := by
  rw [Receiver.start_eq]
  rfl

/-- The first three header bytes join buffer and check (R4). -/
theorem foldl_header (s : State) {r : Receiver} (ha : r.assembly = .header) (header : List Byte) :
    ∀ bytes : List Byte, bytes.length + header.length ≤ 3 →
      (header.map dataPixel).foldl takeSymbol (s.setReceiver (r.joined bytes)) =
        s.setReceiver (r.joined (bytes ++ header)) := by
  induction header with
  | nil => intro bytes _; simp
  | cons v header ih =>
    intro bytes hlen
    rw [List.length_cons] at hlen
    have hstep : (r.joined bytes).headerByte v = r.joined (bytes ++ [v]) := by
      rw [Receiver.headerByte_short (by show bytes.length < 3; omega), Receiver.joined, Receiver.joined,
        crc_append_byte]
    rw [List.map_cons, List.foldl_cons, takeSymbol_dataPixel, dataSymbol_header (by exact ha),
      State.setReceiver_receiver, hstep, State.setReceiver_twice, ih (bytes ++ [v]) (by simp; omega),
      List.append_assoc]
    rfl

/-- The payload bytes join buffer and check, the last of them ends the payload (R5). -/
theorem foldl_payload (s : State) (r : Receiver) (n : Nat) (payload : List Byte) :
    ∀ bytes : List Byte, bytes.length + payload.length ≤ 4 + n →
      (payload.map dataPixel).foldl takeSymbol (s.setReceiver (r.reading bytes n)) =
        s.setReceiver (r.reading (bytes ++ payload) n) := by
  induction payload with
  | nil => intro bytes _; simp
  | cons v payload ih =>
    intro bytes hlen
    rw [List.length_cons] at hlen
    have ha : (r.reading bytes n).assembly = .payload := if_pos (by omega)
    have hstep : (r.reading bytes n).payloadByte v = r.reading (bytes ++ [v]) n := by
      rw [Receiver.payloadByte_eq ha rfl]
      simp only [Receiver.reading, Receiver.joined, crc_append_byte, List.length_append, List.length_cons,
        List.length_nil, Nat.zero_add]
      rfl
    rw [List.map_cons, List.foldl_cons, takeSymbol_dataPixel, dataSymbol_payload (by exact ha),
      State.setReceiver_receiver, hstep, State.setReceiver_twice, ih (bytes ++ [v]) (by simp; omega),
      List.append_assoc]
    rfl

/-- A START and three header bytes (R3, R4). -/
theorem foldl_start_header (s : State) (a b c : Byte) :
    (startPixel :: [a, b, c].map dataPixel).foldl takeSymbol s =
      s.setReceiver (s.receiver.start.joined [a, b, c]) := by
  have ha : s.receiver.start.assembly = .header := by rw [Receiver.start_eq]
  have hstart : takeSymbol s startPixel = s.setReceiver (s.receiver.start.joined []) := by
    rw [Receiver.start_joined]
    exact takeSymbol_start s 0
  rw [List.foldl_cons, hstart, foldl_header s ha _ _ (by simp)]
  rfl

/-- A START and the whole header: the packet is OVERLENGTH, or its payload is read (R3, R4). -/
theorem foldl_start_whole_header (s : State) (a b c d : Byte) :
    (startPixel :: [a, b, c, d].map dataPixel).foldl takeSymbol s =
      s.setReceiver (if 1024 < c.toNat + 256 * d.toNat then
        { s.receiver.start with
          check := crc [a, b, c, d], assembly := .hunt, buffer := [], overlength := bump s.receiver.start.overlength }
      else s.receiver.start.reading [a, b, c, d] (c.toNat + 256 * d.toNat)) := by
  have ha : s.receiver.start.assembly = .header := by rw [Receiver.start_eq]
  have hsplit : startPixel :: [a, b, c, d].map dataPixel =
      (startPixel :: [a, b, c].map dataPixel) ++ [dataPixel d] := rfl
  rw [hsplit, List.foldl_append, foldl_start_header, List.foldl_cons, List.foldl_nil, takeSymbol_dataPixel,
    dataSymbol_header (by exact ha), State.setReceiver_receiver, State.setReceiver_twice,
    Receiver.headerByte_fourth (r := s.receiver.start.joined [a, b, c]) rfl d (length := c.toNat + 256 * d.toNat) rfl,
    Receiver.reading_header _ rfl]
  rfl

/-- A START, header and payload of a packet that fits (R3, R4, R5). -/
theorem foldl_packetBody (s : State) (destination kind : Byte) {payload : List Byte} (h : payload.length ≤ 1024) :
    (startPixel :: (packetBody destination kind payload).map dataPixel).foldl takeSymbol s =
      s.setReceiver (s.receiver.start.reading (packetBody destination kind payload) payload.length) := by
  have hlen : leNat (leBytes 2 payload.length) = payload.length := by
    rw [leNat_leBytes]
    exact Nat.mod_eq_of_lt (by omega)
  obtain ⟨c, d, hcd⟩ : ∃ c d, leBytes 2 payload.length = [c, d] := ⟨_, _, rfl⟩
  rw [hcd] at hlen
  have hn : c.toNat + 256 * d.toNat = payload.length := hlen
  have hsplit : startPixel :: (packetBody destination kind payload).map dataPixel =
      (startPixel :: [destination, kind, c, d].map dataPixel) ++ payload.map dataPixel := by
    rw [packetBody, hcd]
    simp
  rw [hsplit, List.foldl_append, foldl_start_whole_header, if_neg (by omega), hn,
    foldl_payload _ _ _ _ _ (Nat.le_refl _), packetBody, hcd]
  rfl

/-! ## The whole line -/

theorem packetBody_length (destination kind : Byte) (payload : List Byte) :
    (packetBody destination kind payload).length = 4 + payload.length := by
  simp [packetBody]
  omega

/-- The receiver when the first check byte of a packet has come, its second the next (R5). -/
def Receiver.awaiting (r : Receiver) (destination kind : Byte) (payload : List Byte) (low : Byte) : Receiver :=
  { r.start.reading (packetBody destination kind payload) payload.length with received := [low] }

/-- A line with one packet comes down to the packet's second check byte (R3 to R6). -/
theorem exec_packetLine {s : State} (hi : s.receiver.interval = true) (destination kind : Byte) {payload : List Byte}
    (h : payload.length ≤ 1024) (low high : Byte) :
    exec (.carrierLine (packetLine destination kind payload [low, high])) s =
      .next (checkByte high
        ((countBlankingLine s).setReceiver (s.receiver.awaiting destination kind payload low))) := by
  have hbody := packetBody_length destination kind payload
  have hcheck : (s.receiver.start.reading (packetBody destination kind payload) payload.length).assembly = .check :=
    if_neg (by omega)
  have hrecv : (s.receiver.start.reading (packetBody destination kind payload) payload.length).received = [] := by
    rw [Receiver.start_eq]
    rfl
  have hsplit : startPixel :: (packetBody destination kind payload ++ [low, high]).map dataPixel =
      (startPixel :: (packetBody destination kind payload).map dataPixel) ++ [dataPixel low, dataPixel high] := by
    simp
  rw [packetLine, exec_markedLine hi (List.cons_ne_nil _ _), List.take_of_length_le (by simp; omega), hsplit,
    List.foldl_append, foldl_packetBody _ _ _ h, countBlankingLine_receiver, List.foldl_cons, takeSymbol_dataPixel,
    dataSymbol_check (by exact hcheck), checkByte_first (by exact hrecv), List.foldl_cons, takeSymbol_dataPixel,
    dataSymbol_check (by exact hcheck), List.foldl_nil]
  rfl

/-- Once both check bytes have come the part is as `heardPacket` says. -/
theorem setReceiver_heard (s : State) (destination kind : Byte) (payload : List Byte) (low high : Byte) :
    (countBlankingLine s).setReceiver
        { s.receiver.awaiting destination kind payload low with assembly := .hunt, received := [low, high] } =
      heardPacket destination kind payload [low, high] s := by
  rw [Receiver.awaiting, Receiver.start_eq]
  rfl

theorem setReceiver_accepted (s : State) (destination kind : Byte) (payload : List Byte) (low high : Byte) :
    (countBlankingLine s).setReceiver
        { s.receiver.awaiting destination kind payload low with
          assembly := .hunt, received := [low, high]
          accepted := bump (s.receiver.awaiting destination kind payload low).accepted } =
      acceptedPacket destination kind payload [low, high] s := by
  rw [Receiver.awaiting, Receiver.start_eq]
  rfl

/-- The two good check bytes spell the check, low byte first (R6). -/
theorem goodCheck_bytes (destination kind : Byte) (payload : List Byte) : ∃ low high,
    goodCheck destination kind payload = [low, high] ∧
      low.toNat + 256 * high.toNat = (crc (packetBody destination kind payload)).toNat :=
  ⟨_, _, rfl, leNat_word16Bytes (crc (packetBody destination kind payload))⟩

section
variable {s : State} (hi : s.receiver.interval = true) {destination kind : Byte} {payload : List Byte}
  (h : payload.length ≤ 1024)
include hi h

/-- A packet whose check bytes differ from its check is BAD_CHECK (R7). -/
theorem exec_packetLine_bad {low high : Byte}
    (hbad : low.toNat + 256 * high.toNat ≠ (crc (packetBody destination kind payload)).toNat) :
    exec (.carrierLine (packetLine destination kind payload [low, high])) s =
      .next ((heardPacket destination kind payload [low, high] s).setReceiver
        { (heardPacket destination kind payload [low, high] s).receiver with
          buffer := [], badCheck := bump s.receiver.badCheck }) := by
  rw [exec_packetLine hi _ _ h, checkByte_second_bad (by rfl) (by exact hbad), ← setReceiver_heard,
    State.setReceiver_receiver, State.setReceiver_twice, State.setReceiver_twice, Receiver.awaiting, Receiver.start_eq]
  rfl

/-- A good packet for another node is heard and ignored (R11). -/
theorem exec_packetLine_other (hd : ¬ (destination.toNat = s.port.node.val ∨ destination = 15)) :
    exec (.carrierLine (packetLine destination kind payload (goodCheck destination kind payload))) s =
      .next (heardPacket destination kind payload (goodCheck destination kind payload) s) := by
  obtain ⟨low, high, hbytes, hgood⟩ := goodCheck_bytes destination kind payload
  rw [hbytes, exec_packetLine hi _ _ h, checkByte_second_other (by rfl) (by exact hgood) (by exact hd),
    ← setReceiver_heard, State.setReceiver_receiver, State.setReceiver_twice]

/-- A good packet for this node, or for every node, is counted and handed over (R11, R13). -/
theorem exec_packetLine_mine (hd : destination.toNat = s.port.node.val ∨ destination = 15) :
    exec (.carrierLine (packetLine destination kind payload (goodCheck destination kind payload))) s =
      .next (handOver kind (destination == 15) payload
        (acceptedPacket destination kind payload (goodCheck destination kind payload) s)) := by
  obtain ⟨low, high, hbytes, hgood⟩ := goodCheck_bytes destination kind payload
  rw [hbytes, exec_packetLine hi _ _ h, checkByte_second_mine (by rfl) (by exact hgood) (by exact hd),
    ← setReceiver_accepted, State.setReceiver_receiver, State.setReceiver_twice]
  rfl

end

/-- Settles O19: the line hands the packet over, and the hand-over is the row of the packet's kind. -/
theorem packetLineActsAsItsCommand : Obligations.PacketLineActsAsItsCommand := by
  unfold Obligations.PacketLineActsAsItsCommand
  intro destination payload s h hi hd
  refine ⟨fun kind => ?_, fun code hc => ?_⟩
  · rw [exec_packetLine_mine hi h hd, next_handOver_known]
  · rw [exec_packetLine_mine hi h hd, next_handOver_unknown hc]

/-- A declared length above 1024 ends the packet at the fourth header byte (R4). -/
theorem overlengthIsDiscarded : Claims.OverlengthIsDiscarded := by
  intro destination kind low high s hi hunt hover
  rw [exec_markedLine hi (List.cons_ne_nil _ _), List.take_of_length_le (by simp), foldl_start_whole_header,
    if_pos hover, countBlankingLine_receiver, Receiver.start_eq, if_pos hunt]

/-- Settles O20: a packet line comes down to its second check byte, where a wrong check and another node's packet end;
an overlong one ends at its fourth header byte. -/
theorem packetLineDiscarded : Obligations.PacketLineDiscarded :=
  ⟨⟨fun _ _ _ _ h hi hnode hall => exec_packetLine_other hi h (not_or.2 ⟨hnode, hall⟩),
    fun _ _ _ _ _ _ h hi hbad => exec_packetLine_bad hi h hbad⟩, overlengthIsDiscarded⟩

end Sys2Proof.Machine
end

section
/-! PROOFS. The timing unit's events outside LOCKED: the first active line, the median, acquisition, the timers (R10,
R18 to R31). -/

namespace Sys2Proof.Machine

/-! ## The end and the opening of an interval (R10, R34) -/

theorem Receiver.endInterval_open (r : Receiver) : { r.endInterval with interval := true } =
    if r.interval = true ∧ r.assembly ≠ .hunt then
      { r with assembly := .hunt, buffer := [], truncated := bump r.truncated }
    else { r with interval := true } := by
  unfold Receiver.endInterval
  split
  · rename_i h
    rw [← h.1]
    rfl
  · rfl

theorem Receiver.endInterval_within {r : Receiver} (h : r.interval = true) : r.endInterval =
    if r.assembly = .hunt then { r with interval := false }
    else { r with interval := false, assembly := .hunt, buffer := [], truncated := bump r.truncated } := by
  unfold Receiver.endInterval
  by_cases ha : r.assembly = .hunt
  · rw [if_neg (by simp [ha]), if_pos ha]
  · rw [if_pos ⟨h, ha⟩, if_neg ha]
    rfl

/-- Settles O22: the interval ends in the receiver, the width goes to the measurement, and the blanked frame is a case
of its own. -/
theorem firstActiveLineOutcome : Obligations.FirstActiveLineOutcome := by
  unfold Obligations.FirstActiveLineOutcome
  refine ⟨fun width s hi => ?_, fun width s hi => ?_⟩
  · show execFirstActiveLine width s = _
    rw [execFirstActiveLine, if_neg (by simp [hi])]
  · show execFirstActiveLine width s = _
    rw [execFirstActiveLine, if_pos hi, ← Receiver.endInterval_within hi, blankFrame]
    by_cases hb : s.timing.source = .input ∧ s.timing.blankingPassed < 10
    · rw [if_pos (by exact hb), if_pos hb]
      rfl
    · rw [if_neg (by exact hb), if_neg hb]
      rfl

/-! ## The median (R20, R21) -/

theorem middle_mem (a b c : Nat) : middle a b c = a ∨ middle a b c = b ∨ middle a b c = c := by
  unfold middle
  omega

/-- At least two of the three numbers are no larger than the middle one, and at least two no smaller. -/
theorem middle_countP (a b c : Nat) :
    2 ≤ [a, b, c].countP (· ≤ middle a b c) ∧ 2 ≤ [a, b, c].countP (middle a b c ≤ ·) := by
  simp only [List.countP_cons, List.countP_nil, decide_eq_true_eq]
  unfold middle
  constructor <;> split <;> split <;> split <;> omega

theorem acceptedGeometry_short {l : List Measurement} (h : l.length < 3) : acceptedGeometry l = none := by
  unfold acceptedGeometry
  split
  · simp at h
  · rfl

theorem matchesCanvas_iff (m : Measurement) (c : CanvasEntry) : matchesCanvas m c = true ↔
    m.activeWidth = c.width.toNat ∧ m.activeLines = c.height.toNat ∧ 10 ≤ m.blankingLines := by
  simp [matchesCanvas, and_assoc]

theorem medianRule : Claims.MedianRule :=
  ⟨fun a b c => ⟨middle_mem a b c, middle_countP a b c⟩, fun _ _ _ => rfl, fun _ h => acceptedGeometry_short h,
    matchesCanvas_iff⟩

/-! ## An input frame start before the lock (R22, R23, R25) -/

theorem exec_inputFrameStart_inReset {s : State} (h : s.timing.inReset = true) (further waitLines : Nat) :
    exec (.inputFrameStart further waitLines) s = .next s := by
  show execInputFrameStart further waitLines s = _
  rw [execInputFrameStart, if_pos h]

theorem exec_inputFrameStart {s : State} (h : s.timing.inReset = false) (further waitLines : Nat) :
    exec (.inputFrameStart further waitLines) s = .next (takeFrameStart further (openInterval s)) := by
  show execInputFrameStart further waitLines s = _
  rw [execInputFrameStart, if_neg (by simp [h])]

/-- In NO_INPUT and HOLDOVER acquisition begins with an empty list (R22, R25). -/
theorem takeFrameStart_absent {s : State} (h : s.timing.lock = .noInput ∨ s.timing.lock = .holdover) (further : Nat) :
    takeFrameStart further s =
      s.setTiming { s.timing.rearm [] s.setup.canvas s.now with lock := .acquiring } := by
  rcases h with h | h <;> simp only [takeFrameStart, h]

theorem takeFrameStart_measuring {s : State} (h : s.timing.lock = .acquiring ∨ s.timing.lock = .mismatch)
    {p : InProgress} (hp : s.timing.current = some p) (further : Nat) {l : List Measurement}
    (hl : appendMeasurement s.timing.measurements (p.complete further s.now) = l) :
    takeFrameStart further s = unlockedStart l (matchingGeometry l s.setup.canvas)
      (s.setTiming (s.timing.rearm l s.setup.canvas s.now)) := by
  have hl' : completedList s.timing further s.now = l := by simp only [completedList, hp, hl]
  rcases h with h | h <;> simp only [takeFrameStart, h, hl']

/-- The next measurement begins, and the newest one arms the timeout (R23 to R26). -/
theorem Timing.rearm_append (t : Timing) (l : List Measurement) (m : Measurement) (c : CanvasEntry) (now : Nat) :
    t.rearm (l ++ [m]) c now = { t with
      measurements := l ++ [m], current := some ⟨now, 0, 0, 0⟩, timeout := some (now + 2 * m.period) } := by
  simp [Timing.rearm, referencePeriod, InProgress.start]

theorem matchingGeometry_some {l : List Measurement} {g : Measurement} (hg : acceptedGeometry l = some g)
    (c : CanvasEntry) : matchingGeometry l c = if matchesCanvas g c then some g else none := by
  simp only [matchingGeometry, hg]

theorem matchingGeometry_short {l : List Measurement} (h : l.length < 3) (c : CanvasEntry) :
    matchingGeometry l c = none := by
  simp only [matchingGeometry, acceptedGeometry_short h]

/-- A list with a median is not short. -/
theorem length_of_acceptedGeometry {l : List Measurement} {g : Measurement} (h : acceptedGeometry l = some g) :
    ¬ l.length < 3 := fun hl => by
  rw [acceptedGeometry_short hl] at h
  cases h

theorem frameStartBeforeLock : Claims.FrameStartBeforeLock := by
  intro further waitLines s
  refine ⟨fun h => exec_inputFrameStart_inReset h further waitLines, fun h => ?_⟩
  intro receiver
  have hr : (openInterval s) = s.setReceiver receiver := by
    rw [openInterval, Receiver.endInterval_open]
  refine ⟨fun hlock => ?absent, fun p hlock hp => ?measuring⟩
  case absent =>
    rw [exec_inputFrameStart h, hr, takeFrameStart_absent (s := s.setReceiver receiver) hlock]
    rfl
  case measuring =>
    intro m list timing
    have step : exec (.inputFrameStart further waitLines) s = .next (unlockedStart list
        (matchingGeometry list s.setup.canvas) { s with receiver := receiver, timing := timing }) := by
      have hrearm : s.timing.rearm list s.setup.canvas s.now = timing := Timing.rearm_append _ _ _ _ _
      rw [exec_inputFrameStart h, hr,
        takeFrameStart_measuring (s := s.setReceiver receiver) (l := list) hlock hp further rfl, ← hrearm]
      rfl
    refine ⟨fun g hg hm => ?matching, fun g hg hm => ?differing, fun hacq hlen => ?short⟩
    case matching =>
      rw [step, matchingGeometry_some hg, if_pos hm]
      rfl
    case differing =>
      rw [step, matchingGeometry_some hg, if_neg (by simp [hm]), unlockedStart,
        if_neg (fun hc => length_of_acceptedGeometry hg hc.2)]
      rfl
    case short =>
      rw [step, matchingGeometry_short hlen, unlockedStart, if_pos ⟨hacq, hlen⟩]

/-- Settles O52: the median by its order, and the frame start by the lock state and the list it completes. -/
theorem acquiringTheInput : Obligations.AcquiringTheInput := ⟨medianRule, frameStartBeforeLock⟩

/-! ## The timers (R26 to R30) -/

theorem inputTimeoutOutcome : Claims.InputTimeoutOutcome := by
  refine ⟨fun s h => ?_, fun s deadline h => ?_⟩
  · show execInputTimeout s = _
    rw [execInputTimeout, if_neg (by simp [timeoutIsDue, h])]
  · have hdue : timeoutIsDue s = decide (deadline ≤ s.now) := by simp only [timeoutIsDue, h]
    refine ⟨fun hearly => ?_, fun hnow hsource => ?_, fun hnow hsource => ?_⟩ <;> show execInputTimeout s = _
    · rw [execInputTimeout, hdue, if_neg (by simpa using hearly)]
    · rw [execInputTimeout, hdue, if_pos (by simpa using hnow)]
      dsimp only
      rw [if_pos hsource]
      rfl
    · rw [execInputTimeout, hdue, if_pos (by simpa using hnow)]
      dsimp only
      rw [if_neg hsource]
      rfl

theorem generatorFrameEndOutcome : Claims.GeneratorFrameEndOutcome := by
  refine ⟨fun s h => ?_, fun s g hreset hsource hg => ?_⟩
  · show execGeneratorFrameEnd s = _
    have hno : generatorIsDue s = false := by rcases h with h | h <;> simp [generatorIsDue, h]
    rw [execGeneratorFrameEnd, hno, if_neg Bool.false_ne_true]
  · have hdue : generatorIsDue s = decide (s.timing.frameStart + g.period ≤ s.now) := by
      simp [generatorIsDue, hreset, hsource, hg]
    refine ⟨fun hearly => ?_, fun hnow hlock => ?_, fun hnow hlock => ?_⟩ <;> show execGeneratorFrameEnd s = _
    · rw [execGeneratorFrameEnd, hdue, if_neg (by simpa using hearly)]
    · rw [execGeneratorFrameEnd, hdue, if_pos (by simpa using hnow), if_pos hlock]
    · rw [execGeneratorFrameEnd, hdue, if_pos (by simpa using hnow), if_neg hlock]

/-- Settles O54: each timer's test is the comparison of its time with the oscillator count. -/
theorem frameTimers : Obligations.FrameTimers := ⟨inputTimeoutOutcome, generatorFrameEndOutcome⟩

end Sys2Proof.Machine
end

section
/-! PROOFS. The numbers of the lists, and the part right after power-on. -/

namespace Sys2Proof.Machine

/-- Settles O60: each list is computed, for every value of the payloads it carries. -/
theorem enumerationNumbers : Obligations.EnumerationNumbers :=
  ⟨rfl, rfl, rfl, rfl, rfl, rfl, rfl, rfl, rfl, rfl, rfl, rfl, rfl, rfl, rfl, rfl, rfl, fun _ _ _ => ⟨rfl, rfl⟩,
    fun _ _ => ⟨rfl, rfl⟩, fun _ => rfl, fun _ => rfl⟩

/-! ## The part right after power-on -/

theorem channelLegal_initial : ChannelLegal Channel.initial :=
  ⟨by decide, by decide, by decide, by decide, by decide, by decide, by decide, by decide⟩

theorem reset_loadsCoherent : LoadsCoherent State.reset :=
  ⟨fun _ => by simp [State.reset, Pictures.initial, Channel.initial, Channel.targets, TileRecord.initial],
    fun _ => by simp [State.reset, Pictures.initial, Channel.initial, Channel.targets],
    channelLegal_initial, channelLegal_initial⟩

/-- An IDLE channel with an empty buffer asks nothing of picture memory. -/
theorem channelSafe_initial (s : State) : ChannelSafe s Channel.initial :=
  ⟨fun h => absurd rfl h, fun h => absurd rfl h, fun _ h => by simp [Channel.initial] at h,
    fun _ h => by simp [Channel.initial] at h⟩

theorem reset_pictureSafe : PictureSafe State.reset :=
  ⟨reset_loadsCoherent, rfl, fun _ h => by simp [State.reset, Pictures.initial, TileRecord.initial] at h,
    fun _ _ h => by simp [State.reset, Fetch.initial, notReady] at h,
    fun _ h => by simp [State.reset, Fetch.initial] at h, channelSafe_initial _, channelSafe_initial _⟩

theorem recordLegal_initial : RecordLegal RenderRecord.initial := ⟨by decide, by decide, by decide⟩

theorem reset_recordsCoherent : RecordsCoherent State.reset :=
  ⟨fun _ => recordLegal_initial, fun _ => recordLegal_initial, fun _ _ => rfl, ⟨0, fun _ _ => rfl⟩, fun _ _ _ => rfl,
    by decide⟩

theorem reset_groupsLegal : GroupsLegal State.reset :=
  ⟨fun _ => (by decide : 1 ≤ GroupEntry.initial.count ∧ GroupEntry.initial.count ≤ 8),
    fun _ => (by decide : 1 ≤ GroupEntry.initial.dwell.toNat),
    fun _ => (by decide : GroupRun.initial.index < GroupEntry.initial.count),
    fun _ => (by decide : GroupRun.initial.count < GroupEntry.initial.dwell.toNat)⟩

theorem reset_timingCoherent : TimingCoherent State.reset :=
  ⟨by decide, by decide, rfl, rfl, by decide, by decide, by decide,
    fun _ h => by simp [State.reset, Timing.initial] at h, by decide, by decide⟩

theorem reset_setupLegal : SetupLegal State.reset where
  canvas := by unfold within; decide
  heads := fun i => by
    unfold within
    simp only [State.reset, Setup.initial, Table.read, cellsFind]
    split <;> decide
  slots := fun _ => (by decide : SlotEntry.initial.pw.toNat ≤ 8191 ∧ SlotEntry.initial.ph.toNat ≤ 8191)
  fonts := fun _ => (by decide : 8 ≤ initialFontHeight.toNat ∧ initialFontHeight.toNat ≤ 96)
  metrics := fun _ => (by decide : (1 ≤ Metric.initial.width.toNat ∧ Metric.initial.width.toNat ≤ 64)
    ∧ 1 ≤ Metric.initial.advance.toNat ∧ Metric.initial.advance.toNat ≤ 80)
  groups := fun _ => (by decide : (1 ≤ GroupEntry.initial.count ∧ GroupEntry.initial.count ≤ 8)
    ∧ 1 ≤ GroupEntry.initial.dwell.toNat)
  tiles := fun _ => (by decide : TileEntry.initial.base.toNat % 256 = 0 ∧ TileEntry.initial.base.toNat < memoryBytes
    ∧ (1 ≤ TileEntry.initial.width.toNat ∧ TileEntry.initial.width.toNat ≤ 1024)
    ∧ 1 ≤ TileEntry.initial.height.toNat ∧ TileEntry.initial.height.toNat ≤ 1024)
  cursor := fun _ h => by simp [State.reset, Setup.initial] at h

theorem reset_linesLegal : LinesLegal State.reset :=
  ⟨fun _ h => by simp [State.reset, Compositor.initial] at h, fun _ h => by simp [State.reset, Compositor.initial] at h⟩

theorem reset_canonical : Canonical State.reset :=
  ⟨rfl, rfl, rfl, rfl, rfl, rfl, rfl, rfl, rfl, rfl, rfl, rfl, rfl, rfl, rfl, rfl,
    fun _ h => (by simp [State.reset, Engine.initial] at h), rfl, rfl, rfl,
    fun _ h => (by simp [State.reset, Compositor.initial] at h)⟩

/-- Settles O3, property by property. -/
theorem resetIsLegal : Obligations.ResetIsLegal :=
  ⟨⟨by decide, by decide, by decide⟩, ⟨by decide, by decide, fun _ => ⟨rfl, rfl⟩⟩, reset_loadsCoherent,
    reset_pictureSafe, reset_recordsCoherent,
    ⟨by decide, by decide, by decide, by decide, by decide, by decide, by decide, by decide⟩, reset_groupsLegal,
    reset_timingCoherent, .of_hunt rfl (by decide), reset_setupLegal, reset_linesLegal, reset_canonical⟩

end Sys2Proof.Machine
end

section
/-! PROOFS. The reply frame on the line, and the STATUS payload field by field (R185, R187). -/

namespace Sys2Proof.Machine

/-! ## Runs of fields -/

/-- Numbers in so many bytes each, one behind the other: a list of widths and values. -/
def layoutBytes (l : List (Nat × Nat)) : List Byte := l.flatMap fun q => leBytes q.1 q.2

theorem layoutBytes_cons (width value : Nat) (l : List (Nat × Nat)) :
    layoutBytes ((width, value) :: l) = leBytes width value ++ layoutBytes l := rfl

/-- Where the fields of a layout end. -/
def layoutWidth (l : List (Nat × Nat)) : Nat := (l.map Prod.fst).sum

theorem layoutBytes_length (l : List (Nat × Nat)) : (layoutBytes l).length = layoutWidth l := by
  simp [layoutBytes, layoutWidth, List.length_flatMap]

/-- From an offset on, a run of bytes holds the fields of a layout one behind the other. -/
def Holds (p : List Byte) : Nat → List (Nat × Nat) → Prop
  | _, [] => True
  | offset, (width, value) :: rest => field p offset width = value ∧ Holds p (offset + width) rest

/-- The bytes of a layout hold its fields, where the values fit their widths. -/
theorem holds_layoutBytes (rest : List Byte) {l : List (Nat × Nat)} (fits : ∀ q ∈ l, q.2 < 256 ^ q.1) :
    ∀ front : List Byte, Holds (front ++ (layoutBytes l ++ rest)) front.length l := by
  induction l with
  | nil => exact fun _ => trivial
  | cons q l ih =>
    intro front
    obtain ⟨width, value⟩ := q
    obtain ⟨hvalue, hl⟩ := List.forall_mem_cons.1 fits
    have hsplit : front ++ (layoutBytes ((width, value) :: l) ++ rest) =
        (front ++ leBytes width value) ++ (layoutBytes l ++ rest) := by
      simp [layoutBytes_cons]
    refine ⟨?_, ?_⟩
    · rw [hsplit, List.append_assoc, field, List.drop_left' rfl, List.take_left' (leBytes_length _ _), leNat_leBytes,
        Nat.mod_eq_of_lt hvalue]
    · have := ih hl (front ++ leBytes width value)
      rwa [← hsplit, List.length_append, leBytes_length] at this

/-- A field of one byte is the byte. -/
theorem field_one (p : List Byte) (offset : Nat) : field p offset 1 = (byteAt p offset).toNat := by
  unfold field byteAt
  rw [List.getD_eq_getElem?_getD, ← List.head?_drop]
  cases p.drop offset <;> simp [leNat]

/-! ## The STATUS payload (R187) -/

/-- The fields of a STATUS payload up to its counters: their widths and what they hold (R187). -/
def statusNumbers (s : State) : List (Nat × Nat) :=
  [(1, s.port.node.val), (1, s.timing.lock.number), (1, if s.timeBase.clockSet then 1 else 0),
   (1, if s.stager.hold then 1 else 0), (4, s.timeBase.seconds), (4, s.timeBase.micros), (2, s.live.generation.toNat),
   (1, s.live.liveBook.val), (1, (s.timeBase.daypart.map Fin.val).getD 255), (1, s.stager.openBatch.length),
   (1, s.stager.free), (1, s.stager.sealed.length), (1, s.stager.immediate.length),
   (1, s.pictures.channelA.state.number), (1, s.pictures.channelA.tile.toNat), (4, s.pictures.channelA.received),
   (1, s.pictures.channelB.state.number), (1, s.pictures.channelB.tile.toNat), (4, s.pictures.channelB.received)]

/-- The counters of a STATUS payload (R187). -/
def statusCounters (s : State) : List Word16 :=
  [s.receiver.symbolErrors, s.receiver.aborted, s.receiver.truncated, s.receiver.overlength, s.receiver.badCheck,
   s.receiver.accepted, s.receiver.refusals, s.fetch.underruns, s.fetch.oversubscribed, s.fetch.corrected,
   s.fetch.uncorrectable, s.pictures.stalls, s.pictures.surplus, s.port.collisions, s.port.replyTimeouts]

/-- Every field of a STATUS payload but the last refusal (R187). -/
def statusFields (s : State) : List (Nat × Nat) :=
  statusNumbers s ++ (statusCounters s).map fun w => (2, w.toNat)

theorem daypartByte_toNat (d : Option (Fin 8)) : (daypartByte d).toNat = (d.map Fin.val).getD 255 := by
  cases d with
  | none => rfl
  | some k => exact Nat.mod_eq_of_lt (Nat.lt_trans k.isLt (by decide))

theorem byte_eq_leBytes (b : Byte) : [b] = leBytes 1 b.toNat := by
  simp [leBytes]

theorem statusPayload_eq (s : State) :
    statusPayload s = layoutBytes (statusFields s) ++ refusalBytes s.receiver.lastRefusal := by
  unfold statusPayload stagerBytes channelBytes receiverBytes fetchBytes word16Bytes
  rw [byte_eq_leBytes (daypartByte _), daypartByte_toNat]
  simp only [byte_eq_leBytes, List.append_assoc]
  simp only [statusFields, statusNumbers, statusCounters, List.map_cons, List.map_nil, List.cons_append,
    List.nil_append, layoutBytes_cons, List.append_assoc]
  rfl

theorem statusFields_width (s : State) : layoutWidth (statusFields s) = 62 := by
  simp only [layoutWidth, statusFields, statusNumbers, statusCounters, List.map_cons, List.map_nil, List.cons_append,
    List.nil_append, List.sum_cons, List.sum_nil, Nat.reduceAdd]

theorem LockState.number_le (l : LockState) : l.number ≤ 4 := by cases l <;> decide

theorem ChannelState.number_le (x : ChannelState) : x.number ≤ 2 := by cases x <;> decide

theorem daypart_number_le (d : Option (Fin 8)) : (d.map Fin.val).getD 255 ≤ 255 := by
  cases d with
  | none => exact Nat.le_refl _
  | some k => exact Nat.le_trans (Nat.le_of_lt k.isLt) (by decide)

/-- In a legal part every number of a STATUS payload fits its field. -/
theorem statusFields_fit {s : State} (hpool : PoolBounded s) (hclock : ClockLegal s)
    (hreceived : ∀ c, (s.pictures.channel c).received < 2 ^ 32) : ∀ q ∈ statusFields s, q.2 < 256 ^ q.1 := by
  obtain ⟨hrecords, hbatches, hpairs⟩ := hpool
  obtain ⟨hseconds, hmicros, -⟩ := hclock
  have hfree : s.stager.free ≤ 128 := Nat.sub_le _ _
  have hlock := LockState.number_le s.timing.lock
  have hdaypart := daypart_number_le s.timeBase.daypart
  have hstateA := ChannelState.number_le s.pictures.channelA.state
  have hstateB := ChannelState.number_le s.pictures.channelB.state
  have hnumbers : ∀ q ∈ statusNumbers s, q.2 < 256 ^ q.1 := by
    simp only [statusNumbers, List.forall_mem_cons]
    refine ⟨by omega, by omega, by split <;> decide, by split <;> decide, by omega, by omega,
      s.live.generation.isLt, by omega, by omega, by omega, by omega, by omega, by omega, by omega,
      s.pictures.channelA.tile.isLt, hreceived .a, by omega, s.pictures.channelB.tile.isLt, hreceived .b, by simp⟩
  intro q hq
  rcases List.mem_append.1 hq with h | h
  · exact hnumbers q h
  · obtain ⟨w, -, rfl⟩ := List.mem_map.1 h
    exact w.isLt

theorem statusPayloadLayout : Claims.StatusPayloadLayout := by
  intro s hpool hclock hreceived p count
  have hp : p = layoutBytes (statusFields s) ++ refusalBytes s.receiver.lastRefusal := statusPayload_eq s
  have hwidth : (layoutBytes (statusFields s)).length = 62 := (layoutBytes_length _).trans (statusFields_width s)
  have hlength : p.length = 64 := by
    rw [hp, List.length_append, hwidth]
    cases s.receiver.lastRefusal <;> rfl
  have hrefusal : p.drop 62 = refusalBytes s.receiver.lastRefusal := by
    rw [hp, List.drop_left' hwidth]
  have hfields : Holds p 0 (statusFields s) := by
    rw [hp]
    exact holds_layoutBytes _ (statusFields_fit hpool hclock hreceived) []
  have byte {offset : Nat} {b : Byte} (h : field p offset 1 = b.toNat) : byteAt p offset = b :=
    BitVec.eq_of_toNat_eq ((field_one p offset).symm.trans h)
  clear_value p
  simp only [statusFields, statusNumbers, statusCounters, List.map_cons, List.map_nil, List.cons_append,
    List.nil_append, Holds, Nat.reduceAdd] at hfields
  obtain ⟨node, lock, clock, hold, seconds, micros, generation, book, daypart, records, free, batches, pairs,
    stateA, tileA, receivedA, stateB, tileB, receivedB, symbolErrors, aborted, truncated, overlength, badCheck,
    accepted, refusals, underruns, oversubscribed, corrected, uncorrectable, stalls, surplus, collisions, timeouts,
    -⟩ := hfields
  refine ⟨hlength, node, lock, clock, hold, seconds, micros, generation, book, daypart, records, free, batches, pairs,
    stateA, byte tileA, receivedA, stateB, byte tileB, receivedB, symbolErrors, aborted, truncated, overlength,
    badCheck, accepted, refusals, underruns, oversubscribed, corrected, uncorrectable, stalls, surplus, collisions,
    timeouts, ?_⟩
  rw [hrefusal]
  cases s.receiver.lastRefusal <;> rfl

/-! ## The reply frame (R185) -/

@[simp] theorem byteBits_length (b : Byte) : (byteBits b).length = 10 := rfl

theorem frameBits_length (frame : List Byte) : (frameBits frame).length = 10 * frame.length := by
  induction frame with
  | nil => rfl
  | cons b frame ih =>
    rw [frameBits, List.flatMap_cons, List.length_append, ← frameBits, ih, byteBits_length, List.length_cons]
    omega

/-- Byte `i` of a frame is sent in the ten bits from 10 × i on (R185). -/
theorem frameBits_getElem {frame : List Byte} {i : Nat} {b : Byte} (h : frame[i]? = some b) {k : Nat} (hk : k < 10) :
    (frameBits frame)[10 * i + k]? = (byteBits b)[k]? := by
  induction frame generalizing i with
  | nil => simp at h
  | cons c frame ih =>
    rw [frameBits, List.flatMap_cons, ← frameBits]
    cases i with
    | zero =>
      obtain rfl : c = b := by simpa using h
      rw [List.getElem?_append_left (by rw [byteBits_length]; omega), Nat.mul_zero, Nat.zero_add]
    | succ i =>
      rw [List.getElem?_append_right (by rw [byteBits_length]; omega), byteBits_length,
        show 10 * (i + 1) + k - 10 = 10 * i + k by omega]
      exact ih (by simpa using h)

/-- A byte on the line: a 0, its bits from the least significant, a 1 (R185). -/
theorem byteBits_data (b : Byte) {k : Nat} (hk : k < 8) : (byteBits b)[1 + k]? = some (b.getLsbD k) := by
  match k with
  | 0 | 1 | 2 | 3 | 4 | 5 | 6 | 7 => rfl

theorem replyFrameLayout : Claims.ReplyFrameLayout := by
  constructor
  · intro node kind payload h frame
    have hbody : ([BitVec.ofNat 8 node.val, kind, BitVec.ofNat 8 payload.length] ++ payload).length =
        3 + payload.length := by
      simp
      omega
    refine ⟨?_, ?_, rfl, ?_, ?_, ?_⟩
    · simp [frame, replyFrame]
    · exact Nat.mod_eq_of_lt (Nat.lt_trans node.isLt (by decide))
    · exact Nat.mod_eq_of_lt (by omega)
    · exact List.take_left' rfl
    · show (replyFrame node kind payload).drop _ = word16Bytes (crc ((replyFrame node kind payload).take _))
      rw [replyFrame, List.drop_left' hbody, List.take_left' hbody]
  · intro frame i b h
    refine ⟨frameBits_length frame, frameBits_getElem h (k := 0) (by decide), fun k hk => ?_,
      frameBits_getElem h (k := 9) (by decide)⟩
    rw [Nat.add_assoc, frameBits_getElem h (by omega), byteBits_data b hk]

/-- Settles O58: the frame by its parts, the STATUS payload as the layout of its fields. -/
theorem replyLayouts : Obligations.ReplyLayouts := ⟨replyFrameLayout, statusPayloadLayout⟩

end Sys2Proof.Machine
end

section
/-! PROOFS. What POWER_ON, BOARD_RESET and RESET_COMPLETE leave (R35). -/

namespace Sys2Proof.Machine

/-! ## Power-on and board reset -/

/-- HEADS after power-on: head 0 is enabled, the others are not (R44). -/
theorem initial_heads_read (i : Nat) :
    Setup.initial.heads.read i = if i = 0 then HeadEntry.initialZero else HeadEntry.initial := by
  simp only [Setup.initial, Table.read, cellsFind]
  by_cases h : i = 0
  · simp [h]
  · simp [h, Ne.symm h]

/-- A channel back in the state that every reset leaves (R156). -/
def Channel.AtRest (x : Channel) : Prop :=
  x.state = .idle ∧ x.tile = 0 ∧ x.received = 0 ∧ x.holding = [] ∧ x.buffer = [] ∧ x.stall = 0 ∧ x.endRows = none

theorem Channel.atRest_initial : Channel.initial.AtRest := ⟨rfl, rfl, rfl, rfl, rfl, rfl, rfl⟩

theorem Channel.atRest_reset (x : Channel) : x.reset.AtRest := ⟨rfl, rfl, rfl, rfl, rfl, rfl, rfl⟩

/-- The blocks of power-on, whatever the TILES entries, the tile directory and picture memory, are fresh ones. -/
theorem freshBlocks_of_initial {straps : Fin 8} {t : State} (tiles : Table TileEntry.initial)
    (hreceiver : t.receiver = Receiver.initial) (htiming : t.timing = Timing.initial)
    (hsetup : t.setup = { Setup.initial with tiles := tiles }) (hlive : t.live = Live.initial)
    (hstager : t.stager = Stager.initial) (htimeBase : t.timeBase = TimeBase.initial)
    (hengine : t.engine = Engine.initial) (hstalls : t.pictures.stalls = 0) (hsurplus : t.pictures.surplus = 0)
    (hchannels : ∀ c, (t.pictures.channel c).AtRest) (hfetch : t.fetch = Fetch.initial)
    (harbiter : t.arbiter = Arbiter.initial) (hcompositor : t.compositor = Compositor.initial)
    (hport : t.port = Port.initial straps) : FreshBlocks straps t := by
  unfold FreshBlocks
  rw [hreceiver, htiming, hsetup, hlive, hstager, htimeBase, hengine, hfetch, harbiter, hcompositor, hport]
  refine ⟨by decide, by decide, ⟨rfl, rfl, initial_heads_read 0, fun i h => (initial_heads_read i).trans (if_neg h),
      fun _ => rfl, fun _ => rfl, fun _ => rfl, fun _ => rfl, fun _ => rfl, fun _ => rfl, fun _ => rfl⟩,
    ⟨fun _ => rfl, fun _ _ => rfl, fun _ => rfl, rfl, rfl⟩, rfl, ⟨rfl, rfl, rfl, rfl, rfl, fun _ => rfl⟩,
    ⟨rfl, rfl, fun _ => ⟨rfl, rfl⟩⟩, ⟨hstalls, hsurplus, hchannels⟩,
    ⟨rfl, rfl, rfl, rfl, rfl, fun _ => rfl, by decide⟩, by decide, rfl⟩

theorem powerOnState : Claims.PowerOnState := fun straps s =>
  ⟨powerOn straps s, rfl,
    freshBlocks_of_initial .empty rfl rfl rfl rfl rfl rfl rfl rfl rfl
      (fun c => by cases c <;> exact Channel.atRest_initial) rfl rfl rfl rfl,
    fun _ => rfl, fun _ => rfl, rfl, rfl⟩

/-- A reset that spares the tiles empties those that are LOADING (R156). -/
theorem Pictures.reset_directory_read {p : Pictures} (h : p.directory.wf = true) (k : Nat) :
    p.reset.directory.read k =
      if (p.directory.read k).state = .loading then ⟨.empty, 0⟩ else p.directory.read k := by
  show (p.directory.clearWhere _).read k = _
  rw [Table.read_clearWhere _ h]
  simp only [beq_iff_eq]
  rfl

theorem Pictures.reset_channel (p : Pictures) (c : LoadChannel) : (p.reset.channel c).AtRest := by
  cases c <;> exact Channel.atRest_reset _

theorem boardResetState : Claims.BoardResetState := fun straps s h =>
  ⟨boardReset straps s, rfl,
    freshBlocks_of_initial s.setup.tiles rfl rfl rfl rfl rfl rfl rfl rfl rfl s.pictures.reset_channel rfl rfl rfl rfl,
    fun _ => rfl, Pictures.reset_directory_read h, fun _ => rfl, rfl, rfl⟩

/-! ## The first frame -/

/-- With nothing staged and the live book as the daypart has it a boundary leaves the live price state (R66, R92). -/
theorem newLive_idle {s : State} (hstager : s.stager = Stager.initial)
    (hbook : liveBookFor s.setup.schedule s.timeBase.daypart = s.live.liveBook) : newLive s = s.live := by
  have happlied : s.stager.applied s.timeBase.reading s.live = ([], s.live) := by rw [hstager]; rfl
  have himmediate : s.stager.immediate = [] := by rw [hstager]; rfl
  simp [newLive, happlied, himmediate, hbook, settleGeneration, liveDiffers]

/-- An inactive binding shows nothing (R67, R71). -/
theorem settledRecord_inactive {p : Snapshot} {slot : Nat} (h : (p.live.bindings.read slot).active = false) :
    settledRecord p slot = { RenderRecord.initial with generation := p.live.generation } := by
  simp [settledRecord, slotVisible, h]

/-- A group whose restart is pending, with no leader to follow, stays where it is; the boundary ends the wait (R111). -/
theorem boundaryRun_pending {groups : Table GroupEntry.initial} {runs : Table GroupRun.initial} {g : Nat}
    (items : Table Item.initial) (hp : (runs.read g).pending = true) (hl : (groups.read g).leader = none) :
    boundaryRun groups items runs g = { runs.read g with pending := false, badLeader := false } := by
  simp [boundaryRun, movedRun, GroupRun.moving, hp, leaderIsBad, hl]

/-- No slot crosses a line while none is visible (R158, R159). -/
theorem crossings_invisible {s : State} (h : ∀ slot, (s.engine.frame.read slot).visible = false) (y : Nat) :
    crossings s y = [] := by
  simp [crossings, fetchEntry, h]

theorem frameBoundary_fetch_list {source : TimingSource} {s : State}
    (h : ∀ slot, ((frameBoundary source s).engine.frame.read slot).visible = false) :
    (frameBoundary source s).fetch.list = [] := by
  rw [frameBoundary_eq] at h ⊢
  unfold fetchBoundary at h ⊢
  rw [fetchLine_engine] at h
  rcases fetchLine_cases 0 _ with ⟨-, e⟩ | ⟨-, e⟩ <;> rw [e]
  · rw [crossings_invisible h]
    rfl
  · rfl

/-- The part as its reset completes, before its first boundary (R35). -/
def leaveReset (s : State) : State := s.setTiming { s.timing with inReset := false }

theorem exec_resetComplete_inReset {s : State} (h : s.timing.inReset = true) :
    exec .resetComplete s = .next (frameBoundary .generator (leaveReset s)) := by
  show execResetComplete s = _
  rw [execResetComplete, if_pos h]
  rfl

section
variable (source : TimingSource) {s : State}

/-- An UNSET clock gives a boundary no reading and no daypart (R100, R102). -/
theorem timeBaseBoundary_unset (h : s.timeBase.clockSet = false) :
    (timeBaseBoundary s).timeBase.reading = none ∧ (timeBaseBoundary s).timeBase.daypart = none := by
  have hr : s.timeBase.boundaryReading = none := by simp [TimeBase.boundaryReading, h]
  simp [timeBaseBoundary, hr, daypartAt]

/-- With nothing staged, the clock UNSET and live book 0, a boundary leaves the live price state (R64, R92). -/
theorem frameBoundary_live_idle (hstager : s.stager = Stager.initial) (hclock : s.timeBase.clockSet = false)
    (hbook : s.live.liveBook = 0) : (frameBoundary source s).live = s.live := by
  rw [frameBoundary_live, newLive_idle (by exact hstager)]
  · rfl
  · rw [(timeBaseBoundary_unset hclock).2]
    exact hbook.symm

/-- A boundary after which no binding is active leaves every record invisible (R71). -/
theorem frameBoundary_frame_inactive (hactive : ∀ i, ((frameBoundary source s).live.bindings.read i).active = false)
    (hgeneration : (frameBoundary source s).live.generation = 0) (i : Nat) :
    (frameBoundary source s).engine.frame.read i = RenderRecord.initial := by
  rw [frameBoundary_engine]
  simp only [Table.read_ofFn]
  split
  · rw [settledRecord_inactive (by exact hactive i)]
    show { RenderRecord.initial with generation := (frameBoundary source s).live.generation } = _
    rw [hgeneration]
    rfl
  · rfl

/-- A boundary with a restart pending in a group without a leader (R106, R111). -/
theorem frameBoundary_runs_pending {g : Nat} (hg : g < 16) (hp : (s.timeBase.runs.read g).pending = true)
    (hl : (s.setup.groups.read g).leader = none) :
    (frameBoundary source s).timeBase.runs.read g =
      { s.timeBase.runs.read g with pending := false, badLeader := false } := by
  rw [frameBoundary_timeBase]
  show (Table.ofFn 16 _).read g = _
  rw [Table.read_ofFn, if_pos hg, boundaryRun_pending _ hp hl]

end

section
variable {straps : Fin 8} {u : State} (h : FreshBlocks straps u)
include h

/-- Nothing is staged and the clock is UNSET, so the first boundary leaves the live price state (R73, R97). -/
theorem firstFrame_live : (frameBoundary .generator (leaveReset u)).live = u.live := by
  obtain ⟨-, -, -, ⟨-, -, -, -, hbook⟩, hstager, ⟨hclock, -⟩, -⟩ := h
  rw [frameBoundary_live_idle .generator (by exact hstager) (by exact hclock) (by exact hbook)]
  rfl

/-- The first frame is a generator frame on the default canvas, without an input (R27, R35). -/
theorem firstFrame_timing : (frameBoundary .generator (leaveReset u)).timing.inReset = false ∧
    (frameBoundary .generator (leaveReset u)).timing.source = .generator ∧
    (frameBoundary .generator (leaveReset u)).timing.lock = .noInput ∧
    (frameBoundary .generator (leaveReset u)).timing.frameStart = u.now ∧
    (frameBoundary .generator (leaveReset u)).timing.generatorFrame = some ⟨16667, 1080⟩ := by
  obtain ⟨-, ⟨-, hlock, -, -, -, hperiod, -⟩, ⟨-, hcanvas, -⟩, -⟩ := h
  rw [frameBoundary_timing]
  refine ⟨rfl, rfl, hlock, rfl, ?_⟩
  show some (GeneratorFrame.mk (u.timing.generatorPeriod.getD u.setup.canvas.nominalPeriod.toNat)
    u.setup.canvas.height.toNat) = _
  rw [hperiod, hcanvas]
  rfl

/-- The Compositor latches the default canvas and heads (R43, R44, R170). -/
theorem firstFrame_latch : ∃ l, (frameBoundary .generator (leaveReset u)).compositor.latch = some l ∧
    l.lock = .noInput ∧ l.width = 1920 ∧ l.height = 1080 ∧ l.plate = Rgb.black ∧ (l.heads.read 0).enabled = true ∧
    ∀ i, i ≠ 0 → (l.heads.read i).enabled = false := by
  obtain ⟨-, ⟨-, hlock, -⟩, ⟨-, hcanvas, hhead, hheads, -⟩, -⟩ := h
  refine ⟨takeLatch (leaveReset u), by rw [frameBoundary_compositor], hlock, ?_⟩
  show u.setup.canvas.width.toNat = _ ∧ u.setup.canvas.height.toNat = _ ∧ u.setup.canvas.plate = _ ∧
    (u.setup.heads.read 0).enabled = _ ∧ ∀ i, i ≠ 0 → (u.setup.heads.read i).enabled = _
  rw [hcanvas, hhead]
  exact ⟨rfl, rfl, rfl, rfl, fun i hi => by rw [hheads i hi]⟩

/-- No binding is active, so every record is invisible (R71, R137). -/
theorem firstFrame_frame (i : Nat) :
    (frameBoundary .generator (leaveReset u)).engine.frame.read i = RenderRecord.initial := by
  have hlive := firstFrame_live h
  obtain ⟨-, -, -, ⟨-, -, hbindings, hgeneration, -⟩, -⟩ := h
  exact frameBoundary_frame_inactive .generator (fun i => by rw [hlive, hbindings]) (by rw [hlive, hgeneration]) i

/-- Every group's restart was pending, and there is no reading and no daypart (R100, R102, R116). -/
theorem firstFrame_timeBase : (frameBoundary .generator (leaveReset u)).timeBase.reading = none ∧
    (frameBoundary .generator (leaveReset u)).timeBase.daypart = none ∧
    ∀ g < 16, (frameBoundary .generator (leaveReset u)).timeBase.runs.read g = ⟨0, 0, false, false, false⟩ := by
  obtain ⟨-, -, ⟨-, -, -, -, -, -, -, -, -, -, hgroups⟩, -, -, ⟨hclock, -, -, -, -, hruns⟩, -⟩ := h
  obtain ⟨hreading, hdaypart⟩ := timeBaseBoundary_unset (s := leaveReset u) hclock
  have hruns' : ∀ g, (leaveReset u).timeBase.runs.read g = ⟨0, 0, false, true, false⟩ := hruns
  have hgroups' : ∀ g, (leaveReset u).setup.groups.read g = GroupEntry.initial := hgroups
  refine ⟨by rw [frameBoundary_timeBase, hreading], by rw [frameBoundary_timeBase, hdaypart], fun g hg => ?_⟩
  rw [frameBoundary_runs_pending .generator hg (by rw [hruns']) (by rw [hgroups']; rfl), hruns']

end

theorem resetCompleteBeginsFirstFrame : Claims.ResetCompleteBeginsFirstFrame := by
  refine ⟨fun s h => ?_, fun s h => exec_resetComplete_inReset h, fun straps u hfresh => ?_⟩
  · show execResetComplete s = _
    rw [execResetComplete, if_neg (by simp [h])]
  · obtain ⟨hreset, hsource, hlock, hstart, hgenerator⟩ := firstFrame_timing hfresh
    obtain ⟨hreading, hdaypart, hruns⟩ := firstFrame_timeBase hfresh
    have hframe := firstFrame_frame hfresh
    have hlive := firstFrame_live hfresh
    have hlatch := firstFrame_latch hfresh
    obtain ⟨-, ⟨hinReset, -⟩, -, ⟨-, -, -, hgeneration, hbook⟩, -, -, -, -, -, -, hport⟩ := hfresh
    exact ⟨_, exec_resetComplete_inReset hinReset, hreset, hsource, hlock, hstart, hgenerator, hlatch, hframe,
      by rw [hlive, hbook], by rw [hlive, hgeneration], hreading, hdaypart, hruns,
      frameBoundary_fetch_list fun i => by rw [hframe]; rfl, by rw [frameBoundary_port]; exact congrArg _ hport⟩

/-- Settles O15: two resets leave the initial blocks, and the boundary after them is one with nothing staged, nothing
active and every group's restart pending. -/
theorem resetStates : Obligations.ResetStates := ⟨powerOnState, boardResetState, resetCompleteBeginsFirstFrame⟩

end Sys2Proof.Machine
end

section
/-! PROOFS. What SOFT_RESET leaves, and the fetch it begins again (R16, R163, R169, R181). -/

namespace Sys2Proof.Machine

/-- The part with every block reset, before the frame in progress is taken up again (R16). -/
def resetBlocks (s : State) : State :=
  { s with
    receiver := s.receiver.softReset
    setup := { s.setup with cursor := none }
    stager := Stager.initial
    pictures := s.pictures.reset
    fetch := s.fetch.softReset
    arbiter := Arbiter.initial
    port := s.port.softReset }

/-- With no frame in progress, or a blanked one, nothing is taken up again (R163). -/
theorem softResetBlocks_idle {s : State} (h : s.compositor.latch = none ∨ s.compositor.blanked = true) :
    softResetBlocks s = resetBlocks s := by
  show refetch (resetBlocks s) = _
  have hc : (resetBlocks s).compositor = s.compositor := rfl
  unfold refetch
  rw [hc]
  split
  · rfl
  · rename_i l hl
    rw [if_pos (h.resolve_left (by simp [hl]))]

/-- In any other frame the line in output is cut and the next line's fetch begins (R169). -/
theorem softResetBlocks_running {s : State} {l : FrameLatch} (hl : s.compositor.latch = some l)
    (hb : s.compositor.blanked = false) :
    softResetBlocks s = fetchLine s.compositor.lines.length (cutLine l (resetBlocks s)) := by
  show refetch (resetBlocks s) = _
  have hc : (resetBlocks s).compositor = s.compositor := rfl
  simp only [refetch, hc, hl, hb, Bool.false_eq_true, if_false]

/-! ## The fetch that begins again -/

/-- What a slot's fetch entry is read from: the records, the Fetch Unit's latches and the TILES entries (R158). -/
theorem fetchEntry_congr {s t : State} (hframe : t.engine.frame = s.engine.frame)
    (hlatch : t.fetch.tileLatch = s.fetch.tileLatch) (hslots : t.fetch.slots = s.fetch.slots)
    (hwidth : t.fetch.width = s.fetch.width) (hheight : t.fetch.height = s.fetch.height)
    (htiles : t.setup.tiles = s.setup.tiles) (y : Nat) : fetchEntry t y = fetchEntry s y := by
  funext slot
  unfold fetchEntry
  rw [hframe, hlatch, hslots, hwidth, hheight, htiles]

theorem crossings_cutLine_resetBlocks (l : FrameLatch) (s : State) (y : Nat) :
    crossings (cutLine l (resetBlocks s)) y = crossings s y := by
  unfold crossings
  rw [fetchEntry_congr] <;> rw [cutLine_eq] <;> rfl

/-- The Fetch Unit after a soft reset in a running frame (R159, R160, R169). -/
theorem softResetBlocks_fetch {s : State} {l : FrameLatch} (hl : s.compositor.latch = some l)
    (hb : s.compositor.blanked = false) :
    (s.compositor.lines.length < s.fetch.height ∧ (softResetBlocks s).fetch = { s.fetch.softReset with
      list := (crossings s s.compositor.lines.length).take 24
      todo := (crossings s s.compositor.lines.length).take 24
      fetching := !((crossings s s.compositor.lines.length).take 24).isEmpty
      filling := ((crossings s s.compositor.lines.length).take 24).map FetchEntry.blankStore
      oversubscribed := if 24 < (crossings s s.compositor.lines.length).length then 1 else 0 }) ∨
    (s.fetch.height ≤ s.compositor.lines.length ∧ (softResetBlocks s).fetch = s.fetch.softReset) := by
  have hcut : (cutLine l (resetBlocks s)).fetch = s.fetch.softReset := by rw [cutLine_eq]; rfl
  rw [softResetBlocks_running hl hb]
  rcases fetchLine_cases s.compositor.lines.length (cutLine l (resetBlocks s)) with ⟨hy, e⟩ | ⟨hy, e⟩ <;>
    rw [e, hcut] <;> rw [hcut] at hy
  · rw [crossings_cutLine_resetBlocks]
    exact .inl ⟨hy, rfl⟩
  · exact .inr ⟨hy, rfl⟩

/-- Whatever frame is in progress, a soft reset keeps the latches, empties both stores and clears the counters, but for
a line found oversubscribed at once (R169). -/
theorem softResetBlocks_fetch_kept (s : State) :
    (softResetBlocks s).fetch.tileLatch = s.fetch.tileLatch ∧ (softResetBlocks s).fetch.width = s.fetch.width ∧
    (softResetBlocks s).fetch.height = s.fetch.height ∧ (softResetBlocks s).fetch.slots = s.fetch.slots ∧
    (softResetBlocks s).fetch.output = [] ∧
    (∀ e ∈ (softResetBlocks s).fetch.filling, e.words = [] ∧ e.complete = false) ∧
    (softResetBlocks s).fetch.underruns = 0 ∧ (softResetBlocks s).fetch.corrected = 0 ∧
    (softResetBlocks s).fetch.uncorrectable = 0 := by
  have idle : ∀ e ∈ s.fetch.softReset.filling, e.words = [] ∧ e.complete = false := fun _ he => by cases he
  by_cases h : s.compositor.latch = none ∨ s.compositor.blanked = true
  · rw [softResetBlocks_idle h]
    exact ⟨rfl, rfl, rfl, rfl, rfl, idle, rfl, rfl, rfl⟩
  · obtain ⟨hlatch, hb⟩ := not_or.1 h
    obtain ⟨l, hl⟩ := Option.ne_none_iff_exists'.1 hlatch
    rcases softResetBlocks_fetch hl (by simpa using hb) with ⟨-, e⟩ | ⟨-, e⟩ <;> rw [e]
    · refine ⟨rfl, rfl, rfl, rfl, rfl, fun e he => ?_, rfl, rfl, rfl⟩
      obtain ⟨_, -, rfl⟩ := List.mem_map.1 he
      exact ⟨rfl, rfl⟩
    · exact ⟨rfl, rfl, rfl, rfl, rfl, idle, rfl, rfl, rfl⟩

/-! ## The line in output -/

theorem cutLine_no_line {l : FrameLatch} {s : State} (h : s.compositor.lines = []) : cutLine l s = s := by
  simp [cutLine, h]

/-- The line in output keeps its first columns; the rest is composed again without tiles (R169, R181). -/
theorem cutLine_line {l : FrameLatch} {s : State} {before : List (List Rgb)} {line : List Rgb}
    (h : s.compositor.lines = before ++ [line]) : ∃ k, (cutLine l s).compositor.lines =
      before ++ [line.take k ++
        ((drawingSet s l []).line l s.compositor.inputLine (s.compositor.lines.length - 1)).drop k] := by
  refine ⟨Config.cutColumn s.fresh, ?_⟩
  simp [cutLine, h]

/-- A drawing set is read from the tables, the records and the snapshot (R170). -/
theorem drawingSet_congr {s t : State} (hsetup : t.setup = s.setup) (hengine : t.engine = s.engine) (l : FrameLatch)
    (store : List StoreEntry) : drawingSet t l store = drawingSet s l store := by
  unfold drawingSet
  rw [hsetup, hengine]

/-! ## The row -/

theorem exec_softReset_refused {payload : List Byte} (h : payload ≠ []) (s : State) :
    exec (.softReset payload) s = .next (refuse .badLength .softReset s) := by
  show execSoftReset payload s = _
  rw [execSoftReset, softReset, needsEmpty, if_neg h, settle_error]

/-- Settles O16: the blocks one by one, then the fetch and the line in output by the frame in progress. -/
theorem softResetOutcome : Obligations.SoftResetOutcome := by
  unfold Obligations.SoftResetOutcome
  refine ⟨fun payload s h => exec_softReset_refused h s, fun s hwf => ⟨softResetBlocks s, rfl, ?_⟩⟩
  obtain ⟨lines, hcompositor, hlines⟩ := softResetBlocks_compositor s
  obtain ⟨hlatch, hwidth, hheight, hslots, houtput, hfilling, hunderruns, hcorrected, huncorrectable⟩ :=
    softResetBlocks_fetch_kept s
  have hpictures := softResetBlocks_pictures s
  refine ⟨softResetBlocks_receiver s, softResetBlocks_setup s, softResetBlocks_stager s,
    fun k => by rw [hpictures, Pictures.reset_directory_read hwf],
    fun c => by rw [hpictures]; exact Pictures.reset_channel _ c, by rw [hpictures]; rfl, by rw [hpictures]; rfl,
    hlatch, hwidth, hheight, hslots, houtput, hfilling, hunderruns, hcorrected, huncorrectable,
    by rw [softResetBlocks_arbiter]; rfl, by rw [softResetBlocks_arbiter]; rfl, softResetBlocks_port s,
    softResetBlocks_timing s, softResetBlocks_live s, softResetBlocks_timeBase s, softResetBlocks_engine s,
    softResetBlocks_memory s, by rw [hcompositor], by rw [hcompositor], by rw [hcompositor],
    by rw [hcompositor]; exact hlines, softResetBlocks_now s, fun h => ?idle, fun l hl hb => ?running⟩
  case idle =>
    rw [softResetBlocks_idle h]
    exact ⟨rfl, rfl, rfl, rfl, rfl, rfl⟩
  case running =>
    have hrun := softResetBlocks_running hl hb
    refine ⟨fun hy => ?past, fun hy => ?within, fun hno => ?uncut, fun before line hline => ?cut⟩
    case past =>
      rcases softResetBlocks_fetch hl hb with ⟨hlt, -⟩ | ⟨-, e⟩
      · omega
      · rw [e]
        exact ⟨rfl, rfl, rfl, rfl, rfl⟩
    case within =>
      rcases softResetBlocks_fetch hl hb with ⟨-, e⟩ | ⟨hle, -⟩
      · rw [e]
        refine ⟨rfl, rfl, ?_, rfl, rfl⟩
        show (!((crossings s _).take 24).isEmpty) = !(crossings s _).isEmpty
        cases crossings s s.compositor.lines.length <;> rfl
      · omega
    case uncut =>
      rw [hrun, fetchLine_compositor, cutLine_no_line (by exact hno)]
      rfl
    case cut =>
      obtain ⟨k, hk⟩ := cutLine_line (l := l) (s := resetBlocks s) hline
      refine ⟨k, ?_⟩
      rw [drawingSet_congr (s := resetBlocks s) (softResetBlocks_setup s) (softResetBlocks_engine s), hrun,
        fetchLine_compositor, hk]
      rfl

end Sys2Proof.Machine
end

section
/-! SUPPORT. Which rows can change the timing unit, the live price state, the Compositor's latch or the clock's mark;
every other row lets the frame in progress go on. -/

namespace Sys2Proof.Machine

open Sys2Proof.Laws.PacketRow (packet)

/-! ## Canvas lines (R31, R171) -/

/-- Whether the canvas lines are legal reads the Compositor alone. -/
theorem LinesLegal.of_compositor_eq {s t : State} (h : LinesLegal s) (e : t.compositor = s.compositor) :
    LinesLegal t := by
  obtain ⟨lines, columns⟩ := h
  constructor <;> rwa [e]

/-- A frame of which no line has gone by has legal lines. -/
theorem LinesLegal.of_no_lines {s : State} (h : s.compositor.lines = []) : LinesLegal s :=
  ⟨fun _ _ => by rw [h]; exact Nat.zero_le _, fun _ _ _ row hrow => by rw [h] at hrow; cases hrow⟩

/-- A composed line has the latched canvas's width (R171). -/
@[simp] theorem DrawingSet.line_length (d : DrawingSet) (l : FrameLatch) (input : List Rgb) (y : Nat) :
    (d.line l input y).length = l.width := by
  simp [DrawingSet.line]

/-- The line that a soft reset cuts keeps its width: what is composed again replaces as many columns (R169, R181). -/
theorem LinesLegal.cutLine {s : State} (h : LinesLegal s) {l : FrameLatch} (hl : s.compositor.latch = some l)
    (hb : s.compositor.blanked = false) : LinesLegal (cutLine l s) := by
  obtain ⟨lines, hcompositor, hlength⟩ := cutLine_compositor l s
  rcases List.eq_nil_or_concat s.compositor.lines with hno | ⟨before, line, hline⟩
  · rwa [cutLine_no_line hno]
  · rw [List.concat_eq_append] at hline
    obtain ⟨k, hk⟩ := cutLine_line (l := l) hline
    have width := h.columns l hl hb
    have latched : ∀ l', (Machine.cutLine l s).compositor.latch = some l' → l' = l := fun l' hl' => by
      rw [hcompositor] at hl'
      exact Option.some.inj (hl'.symm.trans hl)
    refine ⟨fun l' hl' => ?_, fun l' hl' _ row hrow => ?_⟩
    · rw [latched l' hl', hcompositor]
      exact hlength ▸ h.lines l hl
    · rw [latched l' hl']
      rw [hk] at hrow
      rw [hline] at width
      rcases List.mem_append.1 hrow with hbefore | hcut
      · exact width row (List.mem_append_left _ hbefore)
      · have hw := width line (List.mem_append_right _ (List.mem_singleton_self _))
        rw [List.mem_singleton.1 hcut]
        simp only [List.length_append, List.length_take, List.length_drop, DrawingSet.line_length, hw]
        omega

theorem LinesLegal.softResetBlocks {s : State} (h : LinesLegal s) : LinesLegal (softResetBlocks s) := by
  by_cases hidle : s.compositor.latch = none ∨ s.compositor.blanked = true
  · rw [softResetBlocks_idle hidle]
    exact h.of_compositor_eq rfl
  · obtain ⟨hlatch, hb⟩ := not_or.1 hidle
    obtain ⟨l, hl⟩ := Option.ne_none_iff_exists'.1 hlatch
    have hb' : s.compositor.blanked = false := by simpa using hb
    rw [softResetBlocks_running hl hb']
    have reset : LinesLegal (resetBlocks s) := h.of_compositor_eq rfl
    exact (reset.cutLine hl hb').of_compositor_eq (fetchLine_compositor _ _)

/-- Composing a line adds it, in the canvas's width, behind those that have gone by (R160, R171). -/
theorem composeLine_compositor {s : State} {l : FrameLatch} (hl : s.compositor.latch = some l) (input : List Rgb) :
    (composeLine input s).compositor = { s.compositor with
      lines := s.compositor.lines ++
        [(drawingSet s l s.fetch.output).line l input s.compositor.lines.length]
      inputLine := input } := by
  simp only [composeLine, hl]
  rfl

/-- A line more, where the canvas has one more, of its width except in a blanked frame. -/
theorem LinesLegal.append {s t : State} (h : LinesLegal s) {l : FrameLatch} {line : List Rgb}
    (hl : s.compositor.latch = some l) (hroom : s.compositor.lines.length < l.height)
    (hwidth : s.compositor.blanked = false → line.length = l.width)
    (hlatch : t.compositor.latch = s.compositor.latch) (hblanked : t.compositor.blanked = s.compositor.blanked)
    (hlines : t.compositor.lines = s.compositor.lines ++ [line]) : LinesLegal t := by
  have latched : ∀ l', t.compositor.latch = some l' → l' = l := fun l' hl' =>
    Option.some.inj (hl'.symm.trans (hlatch.trans hl))
  refine ⟨fun l' hl' => ?_, fun l' hl' hb row hrow => ?_⟩
  · rw [latched l' hl', hlines, List.length_append, List.length_singleton]
    exact hroom
  · rw [latched l' hl']
    rw [hblanked] at hb
    rw [hlines] at hrow
    rcases List.mem_append.1 hrow with hgone | hnew
    · exact h.columns l hl hb row hgone
    · rw [List.mem_singleton.1 hnew]
      exact hwidth hb

/-! ## The frame goes on -/

/-- What a row does that is no event of the timing unit: the timing unit, the live price state and the Compositor's
latch stay, the clock is not set in reset (R98), and the canvas lines stay legal. -/
structure FrameGoesOn (s t : State) : Prop where
  timing : t.timing = s.timing
  live : t.live = s.live
  latch : t.compositor.latch = s.compositor.latch
  clock : s.timing.inReset = true → t.timeBase.clockSet = s.timeBase.clockSet
  lines : LinesLegal s → LinesLegal t

theorem FrameGoesOn.of_eq {s t : State} (htiming : t.timing = s.timing) (hlive : t.live = s.live)
    (hcompositor : t.compositor = s.compositor) (hclock : t.timeBase.clockSet = s.timeBase.clockSet) :
    FrameGoesOn s t :=
  ⟨htiming, hlive, by rw [hcompositor], fun _ => hclock, fun h => h.of_compositor_eq hcompositor⟩

theorem FrameGoesOn.refl (s : State) : FrameGoesOn s s := .of_eq rfl rfl rfl rfl

theorem FrameGoesOn.trans {s u t : State} (h : FrameGoesOn s u) (h' : FrameGoesOn u t) : FrameGoesOn s t :=
  ⟨h'.timing.trans h.timing, h'.live.trans h.live, h'.latch.trans h.latch,
    fun hr => (h'.clock (h.timing ▸ hr)).trans (h.clock hr), fun hl => h'.lines (h.lines hl)⟩

theorem FrameGoesOn.endDrain (c : LoadChannel) (s : State) : FrameGoesOn s (endDrain c s) := by
  rw [endDrain_eq]
  exact .of_eq rfl rfl rfl rfl

/-! ## Packets -/

theorem FrameGoesOn.write (payload : List Byte) (s : State) : FrameGoesOn s (write payload s) := by
  rcases write_cases payload s with ⟨code, e⟩ | ⟨c, -, -, -, hw⟩
  · rw [e]
    exact .of_eq rfl rfl rfl rfl
  · have entries : FrameGoesOn s (placeCursor c.table (writeEntries c.table
        (chunks c.table.entryBytes (payload.length / c.table.entryBytes) payload) c.index s)) := by
      refine (writeEntries_keeps (P := fun _ t => FrameGoesOn s t) ?_ _ _ _ (.refl s)).trans (.of_eq rfl rfl rfl rfl)
      intro _ index u v hu _ _
      refine hu.trans ?_
      rcases writeEffect_cases c.table index (u.setSetup v) with ⟨-, e⟩ | ⟨-, e⟩ | ⟨-, -, e⟩ <;> rw [e] <;>
        exact .of_eq rfl rfl rfl rfl
    rcases hw with e | ⟨code, e⟩ <;> rw [e]
    · exact entries
    · exact entries.trans (.of_eq rfl rfl rfl rfl)

/-- No packet is an event of the timing unit; SET_TIME sets the clock outside reset only (R13, R98). -/
theorem FrameGoesOn.ownerActs (kind : PacketKind) (broadcast : Bool) (payload : List Byte) (s : State) :
    FrameGoesOn s (ownerActs kind broadcast payload s) := by
  have pictures (p : Pictures) : FrameGoesOn s (s.setPictures p) := .of_eq rfl rfl rfl rfl
  have staged (g : Stager) : FrameGoesOn s (s.setStager g) := .of_eq rfl rfl rfl rfl
  refine ownerActs_keeps broadcast payload (.refl s) (fun u code kind h => h.trans (.of_eq rfl rfl rfl rfl)) ?select
    (.write payload s) ?query ?stage ?sealing (staged _) (staged _) (fun _ => staged _) ?status ?time ?restart ?opening
    ?data ?ending ?abort ?node (.of_eq rfl rfl rfl rfl) ?reset kind
  case select => intro t h; obtain ⟨_, -, rfl⟩ := select_ok h; exact .of_eq rfl rfl rfl rfl
  case query => intro t h; obtain ⟨-, rfl | ⟨_, rfl⟩⟩ := query_ok h <;> exact .of_eq rfl rfl rfl rfl
  case stage => intro t h; obtain ⟨_, -, rfl⟩ := stage_ok h; exact staged _
  case sealing => intro t h; obtain ⟨_, -, -, rfl⟩ := sealBatch_ok h; exact staged _
  case status => intro t h; obtain ⟨_, -, rfl⟩ := statusNow_ok h; exact staged _
  case time =>
    intro t h
    obtain ⟨-, rfl⟩ | ⟨hreset, _, _, -, -, rfl⟩ := setTime_ok h
    · exact .refl _
    · exact ⟨rfl, rfl, rfl, fun hr => by simp [hreset] at hr, fun hl => hl.of_compositor_eq rfl⟩
  case restart => intro t h; obtain ⟨_, rfl⟩ := groupRestart_ok h; exact .of_eq rfl rfl rfl rfl
  case opening => intro t h; obtain ⟨_, _, _, -, -, -, -, rfl⟩ := loadOpen_ok h; exact pictures _
  case data => intro t h; obtain ⟨_, -, -, rfl⟩ := loadData_ok h; exact (pictures _).trans (.endDrain _ _)
  case ending => intro t h; obtain ⟨_, -, rfl⟩ := loadEnd_ok h; exact (pictures _).trans (.endDrain _ _)
  case abort =>
    intro t h
    obtain rfl | ⟨_, -, rfl⟩ := loadAbort_ok h
    · exact .refl _
    · exact pictures _
  case node => intro t h; obtain ⟨_, -, rfl⟩ := setNode_ok h; exact .of_eq rfl rfl rfl rfl
  case reset =>
    obtain ⟨_, hcompositor, -⟩ := softResetBlocks_compositor s
    exact ⟨softResetBlocks_timing s, softResetBlocks_live s, by rw [hcompositor],
      fun _ => by rw [softResetBlocks_timeBase], LinesLegal.softResetBlocks⟩

/-- Everything a carrier line can do to the frame: nothing outside an interval; within one the line is counted, and the
packets it brings let the frame go on (R1, R19, R31). -/
theorem carrierLine_frame {pixels : List Rgb} {s t : State} (h : exec (.carrierLine pixels) s = .next t) :
    t = s ∨ (s.receiver.interval = true ∧ FrameGoesOn (countBlankingLine s) t) := by
  have symbols (l : List Rgb) : ∀ u, FrameGoesOn (countBlankingLine s) u →
      FrameGoesOn (countBlankingLine s) (l.foldl takeSymbol u) := by
    induction l with
    | nil => exact fun _ hu => hu
    | cons p l ih =>
      exact fun u hu => ih _ (takeSymbol_keeps (P := FrameGoesOn (countBlankingLine s))
        (fun _ _ hv => hv.trans (.of_eq rfl rfl rfl rfl))
        (fun kind broadcast payload v hv => hv.trans (.ownerActs kind broadcast payload v)) u p hu)
  cases h
  split
  · rename_i hi
    refine .inr ⟨hi, ?_⟩
    split
    · exact symbols _ _ (.refl _)
    · exact .refl _
  · exact .inl rfl

/-! ## Every row -/

/-- The rows that are events of the timing unit, or a reset of the whole part (chapter 02). -/
def timingRow : Instr → Bool
  | .powerOn _ | .boardReset _ | .resetComplete | .carrierLine _ | .firstActiveLine _ | .inputFrameStart _ _
  | .inputTimeout | .generatorFrameEnd => true
  | _ => false

theorem grant_goesOn {check : ReadCheck} {s t : State} (h : exec (.grant check) s = .next t) : FrameGoesOn s t := by
  rcases execGrant_cases check s with ⟨-, e⟩ | ⟨-, e⟩ | ⟨c, -, e⟩ <;> rw [e] at h
  · cases h; exact .refl s
  · rcases readBurst_cases check (s.setArbiter (windowAfter s false)) with
      ⟨-, e⟩ | ⟨_, _, -, ⟨-, e⟩ | ⟨-, ⟨-, e⟩ | ⟨-, e⟩ | ⟨-, e⟩⟩⟩ <;> rw [e] at h <;> cases h
    all_goals exact .of_eq rfl rfl rfl rfl
  · rcases writeBurst_cases c (s.setArbiter (windowAfter s true)) with ⟨-, e⟩ | ⟨_, _, -, ⟨-, e⟩ | ⟨-, e⟩⟩ <;>
      rw [e] at h <;> cases h
    · exact .of_eq rfl rfl rfl rfl
    · refine FrameGoesOn.trans ?_ (.endDrain c _)
      exact .of_eq (by simp) (by simp) (by simp) (by simp)

/-- A line that is output, or goes by blank, is one more of the latched canvas (R31, R160, R171). -/
theorem lineOutputStart_goesOn {input : List Rgb} {s t : State} (h : exec (.lineOutputStart input) s = .next t) :
    FrameGoesOn s t := by
  replace h : execLineOutputStart input s = .next t := h
  rcases execLineOutputStart_cases input s with ⟨hcan, e⟩ | ⟨hdue, e⟩ | e <;> rw [e] at h <;> cases h
  · obtain ⟨l, hl, -, -, hroom, -⟩ := lineCanStart_latch hcan
    have hcompositor : (fetchLine (s.compositor.lines.length + 1) (composeLine input (startStore s))).compositor = _ :=
      (fetchLine_compositor _ _).trans (composeLine_compositor (s := startStore s) hl input)
    refine ⟨?_, ?_, by rw [hcompositor]; rfl, fun _ => ?_, fun hlegal => ?_⟩
    · rw [fetchLine_timing, composeLine_eq]; rfl
    · rw [fetchLine_live, composeLine_eq]; rfl
    · rw [fetchLine_timeBase, composeLine_eq]; rfl
    · exact hlegal.append hl hroom (fun _ => DrawingSet.line_length _ l input _) (by rw [hcompositor]; rfl)
        (by rw [hcompositor]; rfl) (by rw [hcompositor]; rfl)
  · obtain ⟨l, hl, hb, hroom, -⟩ := blankLineIsDue_latch hdue
    exact ⟨rfl, rfl, rfl, fun _ => rfl,
      fun hlegal => hlegal.append hl hroom (fun hb' => by simp [hb] at hb') rfl rfl rfl⟩
  · exact .refl _

@[simp] theorem TimeBase.advance_clockSet (b : TimeBase) (n : Nat) : (b.advance n).clockSet = b.clockSet := by
  unfold TimeBase.advance
  split <;> rfl

/-- Every row but those of the timing unit and the resets lets the frame go on, and keeps the interval. -/
theorem exec_goesOn {c : Instr} (hc : timingRow c = false) {s t : State} (h : exec c s = .next t) :
    FrameGoesOn s t ∧ t.receiver.interval = s.receiver.interval := by
  cases hp : packet c with
  | some q =>
    obtain ⟨kind, broadcast, payload⟩ := q
    rw [exec_of_packet hp] at h
    cases h
    exact ⟨.ownerActs kind broadcast payload s, ownerActs_interval kind broadcast payload s⟩
  | none =>
    have kept (hb : bystander c = true) : t.receiver.interval = s.receiver.interval := by
      rw [(exec_bystander hb s t h).1]
    cases c with
    | badKind kind => cases h; exact ⟨.of_eq rfl rfl rfl rfl, rfl⟩
    | grant check => exact ⟨grant_goesOn h, kept rfl⟩
    | lineOutputStart input => exact ⟨lineOutputStart_goesOn h, kept rfl⟩
    | drainEnd channel => refine ⟨?_, kept rfl⟩; cases h; exact .endDrain channel s
    | stallAbort _ => refine ⟨?_, kept rfl⟩; cases h; exact .of_eq rfl rfl rfl rfl
    | lineFetchComplete => refine ⟨?_, kept rfl⟩; cases h; exact .of_eq rfl rfl rfl rfl
    | windowClose => refine ⟨?_, kept rfl⟩; cases h; exact .of_eq rfl rfl rfl rfl
    | groupStep _ => refine ⟨?_, kept rfl⟩; cases h; split <;> exact .of_eq rfl rfl rfl rfl
    | completionEvent => refine ⟨?_, kept rfl⟩; cases h; split <;> exact .of_eq rfl rfl rfl rfl
    | replyStart readings =>
      refine ⟨?_, kept rfl⟩
      replace h : execReplyStart readings s = .next t := h
      rcases execReplyStart_cases readings s with e | ⟨_, _, _, _, _, -, -, ⟨-, -, e⟩ | e⟩ <;>
        rw [e] at h <;> cases h <;> exact .of_eq rfl rfl rfl rfl
    | replyTimeout => refine ⟨?_, kept rfl⟩; cases h; split <;> [split; skip] <;> exact .of_eq rfl rfl rfl rfl
    | collision => refine ⟨?_, kept rfl⟩; cases h; split <;> [split; skip] <;> exact .of_eq rfl rfl rfl rfl
    | replyEnd => refine ⟨?_, kept rfl⟩; cases h; split <;> [split; skip] <;> exact .of_eq rfl rfl rfl rfl
    | clockAdvance _ =>
      refine ⟨?_, kept rfl⟩
      cases h
      refine .of_eq rfl rfl rfl ?_
      rw [State.setTimeBase_timeBase]
      split
      · rfl
      · exact TimeBase.advance_clockSet _ _
    | _ => simp [packet, timingRow] at hp hc

/-- What every command keeps, and the queue has no part in, every step keeps. -/
theorem step_keeps {P : State → Prop} (hpending : ∀ s rest, P s → P (s.setPending rest))
    (hexec : ∀ c s t, P s → exec c s = .next t → P t) (s t : State) (h : P s) (ht : step s = .next t) : P t := by
  unfold step at ht
  split at ht
  · cases ht; exact h
  · exact hexec _ _ _ (hpending _ _ h) ht

end Sys2Proof.Machine
end

section
/-! PROOFS. The timing unit stays coherent (R19, R20, R26 to R28, R34, R98). -/

namespace Sys2Proof.Machine

/-! ## The timing unit alone -/

/-- The part of a timing unit's agreement that the output frame has no share in: the list, the measurement, the timeout
and the generator period by the lock state (R19, R20, R23, R26, R27). -/
structure Timing.Measured (t : Timing) : Prop where
  listed : t.measurements.length ≤ 3
  tested : t.lock = .locked ∨ t.lock = .mismatch → t.measurements.length = 3
  measuring : t.current.isSome = t.lock.measures
  armed : t.timeout.isSome = t.lock.measures
  known : t.lock = .locked → t.generatorPeriod.isSome
  period : ∀ p, t.generatorPeriod = some p → 8000 ≤ p ∧ p ≤ 50000

/-- The whole agreement within the timing unit: what times the output frame goes with the lock (R27, R28). -/
structure Timing.Coherent (t : Timing) : Prop extends Timing.Measured t where
  source : t.source ≠ .generator → t.lock = .locked
  generatorFrame : t.inReset = false → (t.generatorFrame = none ↔ t.source = .input)

/-- Coherence is agreement within the timing unit, and what an interval and the reset ask of the other blocks. -/
theorem timingCoherent_iff {s : State} : TimingCoherent s ↔ s.timing.Coherent ∧
    (s.receiver.interval = true → s.timing.lock.measures = true) ∧
    (s.timing.inReset = true → s.timing.lock = .noInput ∧ s.compositor.latch = none ∧ s.timeBase.clockSet = false) :=
  ⟨fun ⟨listed, tested, measuring, armed, source, generatorFrame, known, period, interval, inReset⟩ =>
      ⟨⟨⟨listed, tested, measuring, armed, known, period⟩, source, generatorFrame⟩, interval, inReset⟩,
    fun ⟨⟨⟨listed, tested, measuring, armed, known, period⟩, source, generatorFrame⟩, interval, inReset⟩ =>
      ⟨listed, tested, measuring, armed, source, generatorFrame, known, period, interval, inReset⟩⟩

theorem TimingCoherent.congr {s t : State} (h : TimingCoherent s) (htiming : t.timing = s.timing)
    (hinterval : t.receiver.interval = s.receiver.interval) (hlatch : t.compositor.latch = s.compositor.latch)
    (hclock : t.timeBase.clockSet = s.timeBase.clockSet) : TimingCoherent t := by
  rw [timingCoherent_iff] at h ⊢
  rwa [htiming, hinterval, hlatch, hclock]

/-- Out of reset an agreeing timing unit makes the part coherent, where no interval is open that is not measured. -/
theorem Timing.Coherent.running {s : State} (h : s.timing.Coherent) (hreset : s.timing.inReset = false)
    (hinterval : s.receiver.interval = true → s.timing.lock.measures = true) : TimingCoherent s :=
  timingCoherent_iff.2 ⟨h, hinterval, fun hr => by simp [hreset] at hr⟩

/-- Before an input is followed the generator times the output frame. -/
theorem Timing.Coherent.source_generator {t : Timing} (h : t.Coherent) (hlock : t.lock ≠ .locked) :
    t.source = .generator := by
  by_contra hne
  exact hlock (h.source hne)

/-- A timing unit that goes on timing the frame by the generator may be in any lock state. -/
theorem Timing.Coherent.of_generator {t u : Timing} (h : t.Coherent) (hu : u.Measured) (hsource : t.source = .generator)
    (hkeeps : u.source = t.source) (hframe : u.generatorFrame = t.generatorFrame) (hreset : u.inReset = t.inReset) :
    u.Coherent where
  toMeasured := hu
  source := fun hne => absurd (hkeeps.trans hsource) hne
  generatorFrame := by rw [hkeeps, hframe, hreset]; exact h.generatorFrame

/-! ## The list and the measurement (R19, R20) -/

theorem appendMeasurement_length {l : List Measurement} (m : Measurement) (h : l.length ≤ 3) :
    (appendMeasurement l m).length = min 3 (l.length + 1) := by
  unfold appendMeasurement
  split <;> simp <;> omega

/-- While input frames are measured, an input frame start makes the list one longer, up to three. -/
theorem Timing.Measured.completedList_length {t : Timing} (h : t.Measured) (hm : t.lock.measures = true)
    (further now : Nat) : (completedList t further now).length = min 3 (t.measurements.length + 1) := by
  obtain ⟨p, hp⟩ := Option.isSome_iff_exists.1 (h.measuring.trans hm)
  simp only [completedList, hp]
  exact appendMeasurement_length _ h.listed

/-- The next measurement begins with a list that a tested lock state finds full (R23 to R26). -/
theorem Timing.Measured.rearm {t : Timing} (h : t.Measured) (hm : t.lock.measures = true) {l : List Measurement}
    (hl : l.length ≤ 3) (htested : t.lock = .locked ∨ t.lock = .mismatch → l.length = 3) (c : CanvasEntry) (now : Nat) :
    (t.rearm l c now).Measured :=
  ⟨hl, htested, hm.symm, hm.symm, h.known, h.period⟩

/-- Acquisition begins with an empty list (R22, R25). -/
theorem Timing.Measured.acquire {t : Timing} (h : t.Measured) (c : CanvasEntry) (now : Nat) :
    Timing.Measured { t.rearm [] c now with lock := .acquiring } :=
  ⟨Nat.zero_le _, by simp, rfl, rfl, by simp, h.period⟩

theorem lockedPeriod_bounds (m : Measurement) : 8000 ≤ lockedPeriod m ∧ lockedPeriod m ≤ 50000 := by
  unfold lockedPeriod clamp
  omega

/-- A full list whose median matches locks, and gives the generator its period (R23, R27). -/
theorem Timing.Measured.lock {t : Timing} (h : t.Measured) (hm : t.lock.measures = true)
    (hl : t.measurements.length = 3) (m : Measurement) :
    Timing.Measured { t with lock := .locked, generatorPeriod := some (lockedPeriod m) } :=
  ⟨h.listed, fun _ => hl, h.measuring.trans hm, h.armed.trans hm, fun _ => rfl,
    fun p hp => by cases hp; exact lockedPeriod_bounds m⟩

/-- One whose median does not match makes MISMATCH (R23, R24). -/
theorem Timing.Measured.mismatch {t : Timing} (h : t.Measured) (hm : t.lock.measures = true)
    (hl : t.measurements.length = 3) : Timing.Measured { t with lock := .mismatch } :=
  ⟨h.listed, fun _ => hl, h.measuring.trans hm, h.armed.trans hm, fun hlock => by simp at hlock, h.period⟩

/-- The input is lost: nothing is measured and nothing armed (R26). -/
theorem Timing.Measured.holdover {t : Timing} (h : t.Measured) :
    Timing.Measured { t with lock := .holdover, current := none, timeout := none } :=
  ⟨h.listed, by simp, rfl, rfl, by simp, h.period⟩

/-- A boundary sets what times the frame; only a LOCKED part's frame is timed otherwise than by the generator (R28). -/
theorem Timing.Measured.boundary {s : State} (h : s.timing.Measured) {source : TimingSource}
    (hsource : source ≠ .generator → s.timing.lock = .locked) : (frameBoundary source s).timing.Coherent := by
  rw [frameBoundary_timing]
  refine ⟨⟨h.listed, h.tested, h.measuring, h.armed, h.known, h.period⟩, hsource, fun _ => ?_⟩
  simp [timingBoundary]

@[simp] theorem frameBoundary_lock (source : TimingSource) (s : State) :
    (frameBoundary source s).timing.lock = s.timing.lock := by
  rw [frameBoundary_timing]; rfl

@[simp] theorem frameBoundary_inReset (source : TimingSource) (s : State) :
    (frameBoundary source s).timing.inReset = s.timing.inReset := by
  rw [frameBoundary_timing]; rfl

/-! ## An input frame start (R22 to R25) -/

/-- The matching geometry of a list is its median, which matches the canvas (R20, R21). -/
theorem matchingGeometry_eq_some {l : List Measurement} {c : CanvasEntry} {m : Measurement}
    (h : matchingGeometry l c = some m) : acceptedGeometry l = some m ∧ matchesCanvas m c = true := by
  unfold matchingGeometry at h
  split at h
  · cases h
  · rename_i g hg
    split at h
    · rename_i hmatch
      cases h
      exact ⟨hg, hmatch⟩
    · cases h

/-- A list with a match is full. -/
theorem matchingGeometry_length {l : List Measurement} {c : CanvasEntry} {m : Measurement} (hl : l.length ≤ 3)
    (h : matchingGeometry l c = some m) : l.length = 3 :=
  Nat.le_antisymm hl (Nat.not_lt.1 (length_of_acceptedGeometry (matchingGeometry_eq_some h).1))

/-- What an input frame start leaves: an agreeing timing unit that measures, out of reset. -/
structure Timing.Runs (t : Timing) : Prop where
  coherent : t.Coherent
  measures : t.lock.measures = true
  inReset : t.inReset = false

/-- In ACQUIRING and MISMATCH (R23, R25). -/
theorem Timing.Runs.unlockedStart {s : State} (h : s.timing.Runs)
    (hlock : s.timing.lock = .acquiring ∨ s.timing.lock = .mismatch) (c : CanvasEntry) :
    (unlockedStart s.timing.measurements (matchingGeometry s.timing.measurements c) s).timing.Runs := by
  obtain ⟨hcoherent, hm, hreset⟩ := h
  have hsource := hcoherent.source_generator (by rcases hlock with h | h <;> simp [h])
  unfold Machine.unlockedStart
  split
  · rename_i m hmatch
    have hl := matchingGeometry_length hcoherent.listed hmatch
    exact ⟨hcoherent.of_generator (hcoherent.toMeasured.lock hm hl m) hsource rfl rfl rfl, rfl, hreset⟩
  · split
    · exact ⟨hcoherent, hm, hreset⟩
    · rename_i hshort
      have hl : s.timing.measurements.length = 3 := by
        rcases hlock with h | h
        · have := hcoherent.listed
          have : ¬ s.timing.measurements.length < 3 := fun hlt => hshort ⟨h, hlt⟩
          omega
        · exact hcoherent.tested (.inr h)
      exact ⟨hcoherent.of_generator (hcoherent.toMeasured.mismatch hm hl) hsource rfl rfl rfl, rfl, hreset⟩

/-- In LOCKED (R24, R28, R29). -/
theorem Timing.Runs.lockedStart {s : State} (h : s.timing.Runs) (hlock : s.timing.lock = .locked)
    (matching : Option Measurement) : (lockedStart matching s).timing.Runs := by
  obtain ⟨hcoherent, hm, hreset⟩ := h
  have hl := hcoherent.tested (.inl hlock)
  have known (m : Measurement) :
      Timing.Measured { s.timing with generatorPeriod := some (lockedPeriod m) } := by
    simpa only [← hlock] using hcoherent.toMeasured.lock hm hl m
  have lost : Timing.Measured { s.timing with lock := .mismatch } := hcoherent.toMeasured.mismatch hm hl
  unfold Machine.lockedStart
  split
  · rename_i m _
    exact ⟨Timing.Measured.boundary (known m) (fun _ => hlock), by simpa using hm, by simpa using hreset⟩
  · rename_i m _
    obtain ⟨listed, tested, measuring, armed, known, period⟩ := known m
    exact ⟨⟨⟨listed, tested, measuring, armed, known, period⟩, fun _ => hlock, fun _ => by simp⟩, hm, hreset⟩
  · rename_i m hsource
    exact ⟨hcoherent.of_generator (known m) hsource rfl rfl rfl, hm, hreset⟩
  · rename_i hsource
    exact ⟨hcoherent.of_generator lost hsource rfl rfl rfl, rfl, hreset⟩
  · exact ⟨Timing.Measured.boundary lost (fun h => absurd rfl h), by rw [frameBoundary_lock]; rfl,
      by simpa using hreset⟩

theorem Timing.Coherent.takeFrameStart {s : State} (h : s.timing.Coherent) (hreset : s.timing.inReset = false)
    (further : Nat) : (takeFrameStart further s).timing.Runs := by
  have absent (hlock : s.timing.lock = .noInput ∨ s.timing.lock = .holdover) :
      (Machine.takeFrameStart further s).timing.Runs := by
    rw [takeFrameStart_absent hlock]
    have hsource := h.source_generator (by rcases hlock with h | h <;> simp [h])
    exact ⟨h.of_generator (h.toMeasured.acquire _ _) hsource rfl rfl rfl, rfl, hreset⟩
  have rearmed (hm : s.timing.lock.measures = true) :
      (s.timing.rearm (completedList s.timing further s.now) s.setup.canvas s.now).Runs := by
    have hlength := h.toMeasured.completedList_length hm further s.now
    have hmeasured := h.toMeasured.rearm hm (l := completedList s.timing further s.now) (by omega)
      (fun htested => by rw [hlength, h.tested htested]; rfl) s.setup.canvas s.now
    exact ⟨⟨hmeasured, h.source, h.generatorFrame⟩, hm, hreset⟩
  cases hlock : s.timing.lock with
  | noInput => exact absent (.inl hlock)
  | holdover => exact absent (.inr hlock)
  | acquiring =>
    simp only [Machine.takeFrameStart, hlock]
    exact Timing.Runs.unlockedStart (s := s.setTiming _) (rearmed (by rw [hlock]; rfl)) (.inl hlock) _
  | mismatch =>
    simp only [Machine.takeFrameStart, hlock]
    exact Timing.Runs.unlockedStart (s := s.setTiming _) (rearmed (by rw [hlock]; rfl)) (.inr hlock) _
  | locked =>
    simp only [Machine.takeFrameStart, hlock]
    exact Timing.Runs.lockedStart (s := s.setTiming _) (rearmed (by rw [hlock]; rfl)) hlock _

/-! ## The rows -/

/-- The end of an interval leaves none open (R10). -/
@[simp] theorem Receiver.endInterval_interval (r : Receiver) : r.endInterval.interval = false := by
  unfold Receiver.endInterval
  split <;> rfl

@[simp] theorem blankFrame_timing (s : State) : (blankFrame s).timing = s.timing := by
  unfold blankFrame
  split <;> rfl

@[simp] theorem blankFrame_timeBase (s : State) : (blankFrame s).timeBase = s.timeBase := by
  unfold blankFrame
  split <;> rfl

@[simp] theorem blankFrame_latch (s : State) : (blankFrame s).compositor.latch = s.compositor.latch := by
  unfold blankFrame
  split <;> rfl

/-- Coherence reads the timing unit, the interval, the latch and the clock's mark. -/
theorem TimingCoherent.of_goesOn {s t : State} (h : TimingCoherent s) (hgoes : FrameGoesOn s t)
    (hinterval : t.receiver.interval = true → t.timing.lock.measures = true) : TimingCoherent t := by
  obtain ⟨hcoherent, -, hreset⟩ := timingCoherent_iff.1 h
  refine timingCoherent_iff.2 ⟨hgoes.timing ▸ hcoherent, hinterval, fun hr => ?_⟩
  rw [hgoes.timing] at hr ⊢
  obtain ⟨hlock, hlatch, hclock⟩ := hreset hr
  exact ⟨hlock, hgoes.latch.trans hlatch, (hgoes.clock hr).trans hclock⟩

/-- A measurement in progress that takes a count or a width is still in progress (R19). -/
theorem TimingCoherent.measure {s t : State} (h : TimingCoherent s) (f : InProgress → InProgress) (passed : Nat)
    (htiming : t.timing = { s.timing with current := s.timing.current.map f, blankingPassed := passed })
    (hlatch : t.compositor.latch = s.compositor.latch) (hclock : t.timeBase = s.timeBase)
    (hinterval : t.receiver.interval = true → s.receiver.interval = true) : TimingCoherent t := by
  obtain ⟨listed, tested, measuring, armed, source, generatorFrame, known, period, interval, inReset⟩ := h
  constructor <;> rw [htiming]
  case measuring => exact (Option.isSome_map ..).trans measuring
  case interval => exact fun hi => interval (hinterval hi)
  case inReset => rw [hlatch, hclock]; exact inReset
  all_goals assumption

theorem TimingCoherent.countBlankingLine {s : State} (h : TimingCoherent s) : TimingCoherent (countBlankingLine s) :=
  h.measure _ _ rfl rfl rfl id

/-- The next frame starts out of reset, and with no interval that is not measured. -/
theorem timingCoherent_boundary {s : State} (h : s.timing.Measured) (hreset : s.timing.inReset = false)
    (hinterval : s.receiver.interval = true → s.timing.lock.measures = true) {source : TimingSource}
    (hsource : source ≠ .generator → s.timing.lock = .locked) : TimingCoherent (frameBoundary source s) :=
  (h.boundary hsource).running (by simpa using hreset) (by simpa using hinterval)

/-- The part once its input is lost: HOLDOVER, nothing measured or armed, no interval open (R10, R26). -/
def inputLost (s : State) : State :=
  (s.setReceiver s.receiver.endInterval).setTiming
    { s.timing with lock := .holdover, current := none, timeout := none }

@[simp] theorem inputLost_interval (s : State) : (inputLost s).receiver.interval = false :=
  s.receiver.endInterval_interval

/-- Everything INPUT_TIMEOUT can do: nothing, or, where the timeout is armed, lose the input, which ends a frame that
ran on it or waited for it (R26, R30). -/
theorem exec_inputTimeout_cases (s : State) : exec .inputTimeout s = .next s ∨ (s.timing.timeout.isSome = true ∧
    ((s.timing.source = .generator ∧ exec .inputTimeout s = .next (inputLost s)) ∨
      (s.timing.source ≠ .generator ∧ exec .inputTimeout s = .next (frameBoundary .generator (inputLost s))))) := by
  have hexec : exec .inputTimeout s = execInputTimeout s := rfl
  rw [hexec, execInputTimeout]
  cases hdue : timeoutIsDue s with
  | false => exact .inl rfl
  | true =>
    refine .inr ⟨?_, ?_⟩
    · cases hto : s.timing.timeout with
      | none => simp [timeoutIsDue, hto] at hdue
      | some _ => rfl
    · by_cases hsource : s.timing.source = .generator
      · exact .inl ⟨hsource, by rw [if_pos rfl, if_pos hsource]; rfl⟩
      · exact .inr ⟨hsource, by rw [if_pos rfl, if_neg hsource]; rfl⟩

theorem inputTimeout_timingCoherent {s t : State} (h : TimingCoherent s) (ht : exec .inputTimeout s = .next t) :
    TimingCoherent t := by
  obtain ⟨hcoherent, -, hreset⟩ := timingCoherent_iff.1 h
  rcases exec_inputTimeout_cases s with e | ⟨harmed, e⟩
  · rw [e] at ht; cases ht; exact h
  · have hrunning : s.timing.inReset = false := by
      by_contra hr
      rw [h.armed, (hreset (by simpa using hr)).1] at harmed
      cases harmed
    rcases e with ⟨hsource, e⟩ | ⟨-, e⟩ <;> rw [e] at ht <;> cases ht
    · exact Timing.Coherent.running (s := inputLost s)
        (hcoherent.of_generator hcoherent.toMeasured.holdover hsource rfl rfl rfl) hrunning (by simp)
    · exact timingCoherent_boundary (s := inputLost s) hcoherent.toMeasured.holdover hrunning (by simp) (by simp)

/-- Everything GENERATOR_FRAME_END can do: nothing, or, out of reset, begin a frame, a handover wait in LOCKED (R27 to
R29). -/
theorem exec_generatorFrameEnd_cases (s : State) : exec .generatorFrameEnd s = .next s ∨
    (s.timing.inReset = false ∧ ∃ source, (source ≠ .generator → s.timing.lock = .locked) ∧
      exec .generatorFrameEnd s = .next (frameBoundary source s)) := by
  have hexec : exec .generatorFrameEnd s = execGeneratorFrameEnd s := rfl
  rw [hexec, execGeneratorFrameEnd]
  cases hdue : generatorIsDue s with
  | false => exact .inl rfl
  | true =>
    simp only [generatorIsDue, Bool.and_eq_true, Bool.not_eq_true'] at hdue
    obtain ⟨⟨hrunning, -⟩, -⟩ := hdue
    refine .inr ⟨hrunning, _, fun hsource => ?_, by rw [if_pos rfl]⟩
    by_contra hlock
    exact hsource (if_neg hlock)

/-- Everything RESET_COMPLETE can do: nothing out of reset, else begin the first frame (R35). -/
theorem exec_resetComplete_cases (s : State) : exec .resetComplete s = .next s ∨
    (s.timing.inReset = true ∧ exec .resetComplete s = .next (frameBoundary .generator (leaveReset s))) := by
  cases hr : s.timing.inReset with
  | true => exact .inr ⟨rfl, exec_resetComplete_inReset hr⟩
  | false =>
    have hexec : exec .resetComplete s = execResetComplete s := rfl
    rw [hexec, execResetComplete, hr]
    exact .inl rfl

theorem exec_timingCoherent {c : Instr} {s t : State} (h : TimingCoherent s) (ht : exec c s = .next t) :
    TimingCoherent t := by
  obtain ⟨hcoherent, hinterval, hreset⟩ := timingCoherent_iff.1 h
  cases hc : timingRow c with
  | false =>
    obtain ⟨hgoes, hi⟩ := exec_goesOn hc ht
    exact h.of_goesOn hgoes (by rw [hi, hgoes.timing]; exact hinterval)
  | true =>
    cases c with
    | powerOn straps => cases ht; exact reset_timingCoherent.congr rfl rfl rfl rfl
    | boardReset straps => cases ht; exact reset_timingCoherent.congr rfl rfl rfl rfl
    | resetComplete =>
      rcases exec_resetComplete_cases s with e | ⟨-, e⟩ <;> rw [e] at ht <;> cases ht
      · exact h
      · obtain ⟨listed, tested, measuring, armed, known, period⟩ := hcoherent.toMeasured
        exact timingCoherent_boundary (s := leaveReset s) ⟨listed, tested, measuring, armed, known, period⟩ rfl
          hinterval (by simp)
    | carrierLine pixels =>
      rcases carrierLine_frame ht with rfl | ⟨hi, hgoes⟩
      · exact h
      · exact h.countBlankingLine.of_goesOn hgoes fun _ => by rw [hgoes.timing]; exact hinterval hi
    | firstActiveLine width =>
      cases ht
      split
      · exact h.measure _ s.timing.blankingPassed (blankFrame_timing _) (by simp) (by simp) (by simp)
      · exact h
    | inputFrameStart a b =>
      cases ht
      split
      · exact h
      · rename_i hr
        obtain ⟨hcoherent', hmeasures, hrunning⟩ :=
          Timing.Coherent.takeFrameStart (s := openInterval s) hcoherent (by simpa [openInterval] using hr) a
        exact hcoherent'.running hrunning fun _ => hmeasures
    | inputTimeout => exact inputTimeout_timingCoherent h ht
    | generatorFrameEnd =>
      rcases exec_generatorFrameEnd_cases s with e | ⟨hrunning, source, hsource, e⟩ <;> rw [e] at ht <;> cases ht
      · exact h
      · exact timingCoherent_boundary hcoherent.toMeasured hrunning hinterval hsource
    | _ => simp [timingRow] at hc

/-- Settles O9, row by row: an input frame start keeps the list, the measurement and the lock in agreement, a boundary
sets what times the frame by the lock, and no row but those of the timing unit touches any of it. -/
theorem timingStaysCoherent : Obligations.TimingStaysCoherent := by
  unfold Obligations.TimingStaysCoherent
  exact step_keeps (fun _ _ h => h.congr rfl rfl rfl rfl) fun _ _ _ => exec_timingCoherent

end Sys2Proof.Machine
end

section
/-! PROOFS. When the live price state and the lock may change (R23 to R26, R35, R58). -/

namespace Sys2Proof.Machine

/-! ## What the rows of the timing unit do to the frame -/

/-- An input frame start leaves a part whose timing unit alone has changed, or begins a frame with such a part. -/
theorem exec_inputFrameStart_cases (further waitLines : Nat) (s : State) :
    exec (.inputFrameStart further waitLines) s = .next s ∨
    (∃ t, exec (.inputFrameStart further waitLines) s = .next ((openInterval s).setTiming t)) ∨
    ∃ source t, exec (.inputFrameStart further waitLines) s =
      .next (frameBoundary source ((openInterval s).setTiming t)) := by
  cases hr : s.timing.inReset with
  | true => exact .inl (exec_inputFrameStart_inReset hr further waitLines)
  | false =>
    rw [exec_inputFrameStart hr]
    rcases takeFrameStart_cases further (openInterval s) with ⟨t, e⟩ | ⟨source, t, e⟩ <;> rw [e]
    · exact .inr (.inl ⟨t, rfl⟩)
    · exact .inr (.inr ⟨source, t, rfl⟩)

/-- The blanked mark asks less of the lines that have gone by (R31). -/
theorem LinesLegal.blankFrame {s : State} (h : LinesLegal s) : LinesLegal (blankFrame s) := by
  unfold Machine.blankFrame
  split
  · exact ⟨h.lines, fun _ _ hb => by simp at hb⟩
  · exact h

@[simp] theorem blankFrame_live (s : State) : (blankFrame s).live = s.live := by
  unfold blankFrame
  split <;> rfl

/-- Within a frame the live price state stays and the canvas lines stay legal. -/
structure WithinFrame (s t : State) : Prop where
  live : t.live = s.live
  lines : LinesLegal s → LinesLegal t

theorem WithinFrame.of_eq {s t : State} (hlive : t.live = s.live) (hcompositor : t.compositor = s.compositor) :
    WithinFrame s t := ⟨hlive, fun h => h.of_compositor_eq hcompositor⟩

theorem WithinFrame.refl (s : State) : WithinFrame s s := .of_eq rfl rfl

/-- The next state begins a frame: it is that of a boundary at this microsecond (R28). -/
def BeginsFrame (s t : State) : Prop := ∃ source u, u.now = s.now ∧ t = frameBoundary source u

theorem BeginsFrame.boundary {s : State} (source : TimingSource) (u : State) (h : u.now = s.now) :
    BeginsFrame s (frameBoundary source u) := ⟨source, u, h, rfl⟩

/-- Every row stays within the frame, resets the whole part, or is an event at which a frame begins (R28, R35). -/
theorem exec_within_or_begins {c : Instr} {s t : State} (h : exec c s = .next t) :
    WithinFrame s t ∨
    (∃ straps, (t = powerOn straps s ∧ c = .powerOn straps) ∨ (t = boardReset straps s ∧ c = .boardReset straps)) ∨
    ((c = .resetComplete ∨ c = .inputTimeout ∨ c = .generatorFrameEnd ∨ ∃ a b, c = .inputFrameStart a b) ∧
      BeginsFrame s t) := by
  cases hc : timingRow c with
  | false =>
    obtain ⟨hgoes, -⟩ := exec_goesOn hc h
    exact .inl ⟨hgoes.live, hgoes.lines⟩
  | true =>
    cases c with
    | powerOn straps => cases h; exact .inr (.inl ⟨straps, .inl ⟨rfl, rfl⟩⟩)
    | boardReset straps => cases h; exact .inr (.inl ⟨straps, .inr ⟨rfl, rfl⟩⟩)
    | resetComplete =>
      rcases exec_resetComplete_cases s with e | ⟨-, e⟩ <;> rw [e] at h <;> cases h
      · exact .inl (.refl s)
      · exact .inr (.inr ⟨.inl rfl, .boundary .generator (leaveReset s) rfl⟩)
    | carrierLine pixels =>
      rcases carrierLine_frame h with rfl | ⟨-, hgoes⟩
      · exact .inl (.refl _)
      · exact .inl ⟨hgoes.live, fun hl => hgoes.lines (hl.of_compositor_eq rfl)⟩
    | firstActiveLine width =>
      cases h
      split
      · exact .inl ⟨blankFrame_live _, fun hl => LinesLegal.blankFrame (by exact hl.of_compositor_eq rfl)⟩
      · exact .inl (.refl _)
    | inputFrameStart a b =>
      rcases exec_inputFrameStart_cases a b s with e | ⟨_, e⟩ | ⟨source, timing, e⟩ <;> rw [e] at h <;> cases h
      · exact .inl (.refl _)
      · exact .inl (.of_eq rfl rfl)
      · exact .inr (.inr ⟨.inr (.inr (.inr ⟨a, b, rfl⟩)), .boundary source ((openInterval s).setTiming timing) rfl⟩)
    | inputTimeout =>
      rcases exec_inputTimeout_cases s with e | ⟨-, ⟨-, e⟩ | ⟨-, e⟩⟩ <;> rw [e] at h <;> cases h
      · exact .inl (.refl _)
      · exact .inl (.of_eq rfl rfl)
      · exact .inr (.inr ⟨.inr (.inl rfl), .boundary .generator (inputLost s) rfl⟩)
    | generatorFrameEnd =>
      rcases exec_generatorFrameEnd_cases s with e | ⟨-, source, -, e⟩ <;> rw [e] at h <;> cases h
      · exact .inl (.refl s)
      · exact .inr (.inr ⟨.inr (.inr (.inl rfl)), .boundary source s rfl⟩)
    | _ => simp [timingRow] at hc

theorem liveChangesAtBoundaries : Claims.LiveChangesAtBoundaries := by
  intro c s t h hchanged
  rcases exec_within_or_begins h with hwithin | ⟨straps, ⟨-, hc⟩ | ⟨-, hc⟩⟩ | ⟨hc, source, u, hnow, rfl⟩
  · exact absurd hwithin.live hchanged
  · exact .inl ⟨straps, .inl hc⟩
  · exact .inl ⟨straps, .inr hc⟩
  · refine .inr ⟨hc, ?_, ?_, ?_, ?_⟩
    · rw [frameBoundary_timing]; exact hnow
    · rw [frameBoundary_compositor]; rfl
    · rw [frameBoundary_compositor]
    · rw [frameBoundary_engine]

/-! ## The lock (R23 to R26, R35) -/

/-- An input frame start that wins the lock has found, in the list it leaves, a median that matches the canvas (R23). -/
theorem takeFrameStart_locks {further : Nat} {s : State} (h : (takeFrameStart further s).timing.lock = .locked)
    (hs : s.timing.lock ≠ .locked) : ∃ m, acceptedGeometry (takeFrameStart further s).timing.measurements = some m ∧
      matchesCanvas m s.setup.canvas = true := by
  have unlocked (hlock : s.timing.lock = .acquiring ∨ s.timing.lock = .mismatch)
      (e : takeFrameStart further s = unlockedStart (completedList s.timing further s.now)
        (matchingGeometry (completedList s.timing further s.now) s.setup.canvas)
        (s.setTiming (s.timing.rearm (completedList s.timing further s.now) s.setup.canvas s.now))) :
      ∃ m, acceptedGeometry (takeFrameStart further s).timing.measurements = some m ∧
        matchesCanvas m s.setup.canvas = true := by
    rw [e] at h ⊢
    unfold unlockedStart at h ⊢
    cases hm : matchingGeometry (completedList s.timing further s.now) s.setup.canvas with
    | some m => exact ⟨m, matchingGeometry_eq_some hm⟩
    | none =>
      simp only [hm] at h
      split at h
      · exact absurd h hs
      · cases h
  cases hlock : s.timing.lock with
  | noInput => rw [takeFrameStart_absent (.inl hlock)] at h; cases h
  | holdover => rw [takeFrameStart_absent (.inr hlock)] at h; cases h
  | acquiring => exact unlocked (.inl hlock) (by simp only [takeFrameStart, hlock])
  | mismatch => exact unlocked (.inr hlock) (by simp only [takeFrameStart, hlock])
  | locked => exact absurd hlock hs

/-- A row that is no input frame start, no input timeout and no reset keeps the lock state. -/
theorem exec_lock {c : Instr} {s t : State} (h : exec c s = .next t) :
    (∃ a b, c = .inputFrameStart a b) ∨ (c = .inputTimeout ∧ (t = s ∨ t.timing.lock = .holdover)) ∨
    ((∃ straps, c = .powerOn straps ∨ c = .boardReset straps) ∧ t.timing.lock = .noInput) ∨
    t.timing.lock = s.timing.lock := by
  cases hc : timingRow c with
  | false => exact .inr (.inr (.inr (by rw [(exec_goesOn hc h).1.timing])))
  | true =>
    cases c with
    | powerOn straps => cases h; exact .inr (.inr (.inl ⟨⟨straps, .inl rfl⟩, rfl⟩))
    | boardReset straps => cases h; exact .inr (.inr (.inl ⟨⟨straps, .inr rfl⟩, rfl⟩))
    | resetComplete =>
      rcases exec_resetComplete_cases s with e | ⟨-, e⟩ <;> rw [e] at h <;> cases h
      · exact .inr (.inr (.inr rfl))
      · exact .inr (.inr (.inr (frameBoundary_lock _ _)))
    | carrierLine pixels =>
      rcases carrierLine_frame h with rfl | ⟨-, hgoes⟩
      · exact .inr (.inr (.inr rfl))
      · exact .inr (.inr (.inr (by rw [hgoes.timing]; rfl)))
    | firstActiveLine width => cases h; refine .inr (.inr (.inr ?_)); split <;> simp
    | inputFrameStart a b => exact .inl ⟨a, b, rfl⟩
    | inputTimeout =>
      refine .inr (.inl ⟨rfl, ?_⟩)
      rcases exec_inputTimeout_cases s with e | ⟨-, ⟨-, e⟩ | ⟨-, e⟩⟩ <;> rw [e] at h <;> cases h
      · exact .inl rfl
      · exact .inr rfl
      · exact .inr (frameBoundary_lock _ _)
    | generatorFrameEnd =>
      rcases exec_generatorFrameEnd_cases s with e | ⟨-, _, -, e⟩ <;> rw [e] at h <;> cases h
      · exact .inr (.inr (.inr rfl))
      · exact .inr (.inr (.inr (frameBoundary_lock _ _)))
    | _ => simp [timingRow] at hc

theorem lockIsWonAtFrameStart : Claims.LockIsWonAtFrameStart := by
  intro c s t h
  rcases exec_lock h with ⟨a, b, rfl⟩ | ⟨hc, e⟩ | ⟨⟨straps, hc⟩, e⟩ | e
  · refine ⟨fun hlocked hs => ⟨⟨a, b, rfl⟩, ?_⟩, fun _ _ => .inl ⟨a, b, rfl⟩⟩
    cases hr : s.timing.inReset with
    | true =>
      rw [exec_inputFrameStart_inReset hr] at h
      cases h
      exact absurd hlocked hs
    | false =>
      rw [exec_inputFrameStart hr] at h
      cases h
      exact takeFrameStart_locks (s := openInterval s) hlocked hs
  · refine ⟨fun hlocked hs => ?_, fun _ _ => .inr (.inl hc)⟩
    rcases e with rfl | e
    · exact absurd hlocked hs
    · simp [e] at hlocked
  · exact ⟨fun hlocked _ => by simp [e] at hlocked, fun _ _ => .inr (.inr ⟨straps, hc⟩)⟩
  · exact ⟨fun hlocked hs => absurd (e ▸ hlocked) hs, fun hlost hs => absurd (e.trans hs) hlost⟩

/-- Settles O14: the live price state goes with the frame, and the lock with the rows that may move it. -/
theorem liveAndLockChanges : Obligations.LiveAndLockChanges := ⟨liveChangesAtBoundaries, lockIsWonAtFrameStart⟩

end Sys2Proof.Machine
end

section
/-! PROOFS. The canvas lines of the frame in progress, and what a head sends of them (R30, R31, R33, R160, R171,
R180). -/

namespace Sys2Proof.Machine

/-- A frame's lines stay legal within it, and a frame begins with none (R170). -/
theorem linesStayLegal : Claims.LinesStayLegal := by
  refine step_keeps (fun _ _ h => h.of_compositor_eq rfl) fun c s t h ht => ?_
  rcases exec_within_or_begins ht with hwithin | ⟨straps, ⟨rfl, -⟩ | ⟨rfl, -⟩⟩ | ⟨-, source, u, -, rfl⟩
  · exact hwithin.lines h
  · exact .of_no_lines rfl
  · exact .of_no_lines rfl
  · exact .of_no_lines (by rw [frameBoundary_compositor])

/-! ## A row of a head's frame (R33, R180) -/

@[simp] theorem headRow_length (h : HeadEntry) (line : Option (List Rgb)) : (headRow h line).length = h.w.toNat := by
  simp [headRow]

section
variable {h : HeadEntry} {c : Nat} (hc : c < h.w.toNat)
include hc

/-- Where no canvas line lies beneath, a row is blank. -/
theorem headRow_none : (headRow h none)[c]? = some h.blank := by
  simp [headRow, hc]

/-- Left of the canvas a row is blank. -/
theorem headRow_left {pixels : List Rgb} (hx : h.x.toInt + c < 0) : (headRow h (some pixels))[c]? = some h.blank := by
  simp [headRow, hc, Int.not_le.2 hx]

/-- Right of the canvas line a row is blank. -/
theorem headRow_right {pixels : List Rgb} (hx : (pixels.length : Int) ≤ h.x.toInt + c) :
    (headRow h (some pixels))[c]? = some h.blank := by
  have hx0 : 0 ≤ h.x.toInt + c := by omega
  have hlen : pixels.length ≤ (h.x.toInt + c).toNat := by omega
  simp [headRow, hc, hx0, List.getElem?_eq_none hlen]

/-- Over the canvas line a row shows it. -/
theorem headRow_within {pixels : List Rgb} (hx0 : 0 ≤ h.x.toInt + c) (hx : h.x.toInt + c < pixels.length) :
    (headRow h (some pixels))[c]? = pixels[(h.x.toInt + c).toNat]? := by
  have hlt : (h.x.toInt + c).toNat < pixels.length := by omega
  simp [headRow, hc, hx0, List.getElem?_eq_getElem hlt]

end

/-! ## The rows sent -/

/-- The canvas line beneath a row of a head's frame that has pixels to show, if it has gone by (R33). -/
def lineBeneath (s : State) (h : HeadEntry) (r : Nat) : Option (List Rgb) :=
  if h.enabled ∧ s.compositor.blanked = false ∧ 0 ≤ h.y.toInt + r then s.compositor.lines[(h.y.toInt + r).toNat]?
  else none

theorem headRows_eq {s : State} {l : FrameLatch} (hl : s.compositor.latch = some l) (head : Nat) :
    headRows s head = (List.range (rowsSent (l.heads.read head) l.height s.compositor.lines.length)).map fun r =>
      headRow (l.heads.read head) (lineBeneath s (l.heads.read head) r) := by
  simp only [headRows, hl]
  rfl

/-- The canvas line beneath a row that has been sent has gone by, with the canvas's width (R31, R33). -/
theorem lineBeneath_canvas {s : State} {l : FrameLatch} (hl : s.compositor.latch = some l) (hlegal : LinesLegal s)
    {h : HeadEntry} {r : Nat} (hr : r < rowsSent h l.height s.compositor.lines.length)
    (hb : s.compositor.blanked = false) (he : h.enabled = true) (hy0 : 0 ≤ h.y.toInt + r)
    (hy : h.y.toInt + r < l.height) : ∃ canvasRow, s.compositor.lines[(h.y.toInt + r).toNat]? = some canvasRow ∧
      canvasRow.length = l.width ∧ lineBeneath s h r = some canvasRow := by
  have hgone : (h.y.toInt + r).toNat < s.compositor.lines.length := by
    unfold rowsSent at hr
    split at hr <;> omega
  refine ⟨_, List.getElem?_eq_getElem hgone, hlegal.columns l hl hb _ (List.getElem_mem hgone), ?_⟩
  rw [lineBeneath, if_pos ⟨he, hb, hy0⟩, List.getElem?_eq_getElem hgone]

/-- No canvas line lies beneath a row of a blanked frame, of a disabled head, or above or below the canvas (R31,
R33). -/
theorem lineBeneath_none {s : State} {l : FrameLatch} (hl : s.compositor.latch = some l) (hlegal : LinesLegal s)
    {h : HeadEntry} {r : Nat} (hout : s.compositor.blanked = true ∨ h.enabled = false ∨ h.y.toInt + r < 0 ∨
      (l.height : Int) ≤ h.y.toInt + r) : lineBeneath s h r = none := by
  unfold lineBeneath
  split
  · rename_i hshown
    obtain ⟨he, hb, hy0⟩ := hshown
    have := hlegal.lines l hl
    rcases hout with hout | hout | hout | hout
    · simp [hb] at hout
    · simp [he] at hout
    · omega
    · exact List.getElem?_eq_none (by omega)
  · rfl

theorem headRule : Claims.HeadRule := by
  intro s head l hl hlegal h gone sent
  have hsent : sent = rowsSent h l.height s.compositor.lines.length := rfl
  rw [headRows_eq hl]
  refine ⟨by rw [List.length_map, List.length_range]; rfl, fun r hr => ?_⟩
  refine ⟨headRow h (lineBeneath s h r), by simp [← hsent, hr, h], headRow_length _ _, fun c hc => ⟨?canvas, ?blank⟩⟩
  case canvas =>
    intro hb he hx0 hx hy0 hy
    obtain ⟨canvasRow, hline, hwidth, hbeneath⟩ := lineBeneath_canvas hl hlegal hr hb he hy0 hy
    exact ⟨canvasRow, hline, by rw [hbeneath]; exact headRow_within hc hx0 (by rw [hwidth]; exact hx)⟩
  case blank =>
    intro hout
    by_cases hrow : s.compositor.blanked = true ∨ h.enabled = false ∨ h.y.toInt + r < 0 ∨
        (l.height : Int) ≤ h.y.toInt + r
    · rw [lineBeneath_none hl hlegal hrow]
      exact headRow_none hc
    · simp only [not_or, Bool.not_eq_true, Bool.not_eq_false, Int.not_lt, Int.not_le] at hrow
      obtain ⟨hb, he, hy0, hy⟩ := hrow
      obtain ⟨canvasRow, -, hwidth, hbeneath⟩ := lineBeneath_canvas hl hlegal hr hb he hy0 hy
      rw [hbeneath]
      rcases hout with h' | h' | hx | hx | h' | h'
      · simp [hb] at h'
      · simp [he] at h'
      · exact headRow_left hc hx
      · exact headRow_right hc (by rw [hwidth]; exact hx)
      · omega
      · omega

/-- Settles O51: the lines stay legal as the frame goes on, and a row a head has sent is over a line that has gone
by. -/
theorem headsSendTheirRectangle : Obligations.HeadsSendTheirRectangle := ⟨linesStayLegal, headRule⟩

end Sys2Proof.Machine
end

section
/-! PROOFS. The output of a canvas line (R31, R32, R159, R160, R162, R163, R171, R179). -/

namespace Sys2Proof.Machine

/-! ## The fetch of a line (R159 to R161) -/

/-- The fetch of a line leaves the Fetch Unit's latches, the store in output and the other counters. -/
theorem fetchLine_fetch_kept (y : Nat) (s : State) :
    (fetchLine y s).fetch.output = s.fetch.output ∧ (fetchLine y s).fetch.tileLatch = s.fetch.tileLatch ∧
    (fetchLine y s).fetch.slots = s.fetch.slots ∧ (fetchLine y s).fetch.width = s.fetch.width ∧
    (fetchLine y s).fetch.height = s.fetch.height ∧ (fetchLine y s).fetch.corrected = s.fetch.corrected ∧
    (fetchLine y s).fetch.uncorrectable = s.fetch.uncorrectable ∧
    (fetchLine y s).fetch.underruns = s.fetch.underruns := by
  rcases fetchLine_cases y s with ⟨-, e⟩ | ⟨-, e⟩ <;> rw [e] <;> exact ⟨rfl, rfl, rfl, rfl, rfl, rfl, rfl, rfl⟩

/-- A line of the frame is fetched by the topmost 24 of the slots that cross it (R159). -/
theorem fetchLine_within {y : Nat} {s : State} (h : y < s.fetch.height) :
    (fetchLine y s).fetch.list = (crossings s y).take 24 ∧ (fetchLine y s).fetch.todo = (crossings s y).take 24 ∧
    (fetchLine y s).fetch.fetching = !(crossings s y).isEmpty ∧
    (fetchLine y s).fetch.filling =
      ((crossings s y).take 24).map (fun e => ⟨e.slot, e.canvasColumn, [], false⟩) ∧
    (fetchLine y s).fetch.oversubscribed =
      if 24 < (crossings s y).length then bump s.fetch.oversubscribed else s.fetch.oversubscribed := by
  rcases fetchLine_cases y s with ⟨-, e⟩ | ⟨hpast, -⟩
  · rw [e]
    refine ⟨rfl, rfl, ?_, rfl, rfl⟩
    show (!((crossings s y).take 24).isEmpty) = _
    cases crossings s y <;> rfl
  · omega

/-- Past the frame's last line nothing is fetched (R160). -/
theorem fetchLine_past {y : Nat} {s : State} (h : s.fetch.height ≤ y) :
    (fetchLine y s).fetch.list = [] ∧ (fetchLine y s).fetch.todo = [] ∧ (fetchLine y s).fetch.fetching = false ∧
    (fetchLine y s).fetch.filling = [] ∧ (fetchLine y s).fetch.oversubscribed = s.fetch.oversubscribed := by
  rcases fetchLine_cases y s with ⟨hlt, -⟩ | ⟨-, e⟩
  · omega
  · rw [e]
    exact ⟨rfl, rfl, rfl, rfl, rfl⟩

/-- The slots that cross a line, read from the records, the Fetch Unit's latches and the TILES entries (R158). -/
theorem crossings_congr {s t : State} (hframe : t.engine.frame = s.engine.frame)
    (hlatch : t.fetch.tileLatch = s.fetch.tileLatch) (hslots : t.fetch.slots = s.fetch.slots)
    (hwidth : t.fetch.width = s.fetch.width) (hheight : t.fetch.height = s.fetch.height)
    (htiles : t.setup.tiles = s.setup.tiles) (y : Nat) : crossings t y = crossings s y := by
  unfold crossings
  rw [fetchEntry_congr hframe hlatch hslots hwidth hheight htiles]

/-! ## When a line is due (R27, R160) -/

theorem lineIsDue_iff {s : State} {y : Nat} : lineIsDue s y = true ↔
    (s.timing.source = .input ∧ s.receiver.interval = false) ∨
    (s.timing.source = .generator ∧ ∃ g, s.timing.generatorFrame = some g ∧
      (45 + y) * g.period ≤ (s.now - s.timing.frameStart) * (45 + g.activeLines)) := by
  unfold lineIsDue
  cases hsource : s.timing.source with
  | awaitingInput => simp
  | input => simp
  | generator => cases hg : s.timing.generatorFrame <;> simp

/-- A line that is output or goes by blank is due, in a latched canvas that has it; one of a frame that is not blanked
has its records (R31, R160, R171). -/
theorem lineOutputStart_acts {input : List Rgb} {s : State} (h : exec (.lineOutputStart input) s ≠ .next s) :
    ∃ l, s.compositor.latch = some l ∧ s.compositor.lines.length < l.height ∧
      lineIsDue s s.compositor.lines.length = true ∧
      (s.compositor.blanked = true ∨ s.engine.computing = false) := by
  rcases execLineOutputStart_cases input s with ⟨hcan, -⟩ | ⟨hdue, -⟩ | e
  · obtain ⟨l, hl, -, hcomputing, hroom, hdue⟩ := lineCanStart_latch hcan
    exact ⟨l, hl, hroom, hdue, .inr hcomputing⟩
  · obtain ⟨l, hl, hb, hroom, hdue⟩ := blankLineIsDue_latch hdue
    exact ⟨l, hl, hroom, hdue, .inl hb⟩
  · exact absurd e h

section
variable {s : State} {l : FrameLatch} (hl : s.compositor.latch = some l)
  (hroom : s.compositor.lines.length < l.height) (hdue : lineIsDue s s.compositor.lines.length = true)
include hl hroom hdue

/-- A due line of a blanked frame goes by (R31). -/
theorem exec_lineOutputStart_blanked (hb : s.compositor.blanked = true) (input : List Rgb) :
    exec (.lineOutputStart input) s = .next (passBlankLine s) := by
  have hcan : lineCanStart s s.compositor.lines.length = false := by simp [lineCanStart, hl, hb]
  have hblank : blankLineIsDue s = true := by simp [blankLineIsDue, hl, hb, hroom, hdue]
  show execLineOutputStart input s = _
  rw [execLineOutputStart, hcan, hblank]
  rfl

/-- Any other is composed, and the next line's fetch begins (R160, R171). -/
theorem exec_lineOutputStart_composed (hb : s.compositor.blanked = false) (hc : s.engine.computing = false)
    (input : List Rgb) : exec (.lineOutputStart input) s =
      .next (fetchLine (s.compositor.lines.length + 1) (composeLine input (startStore s))) := by
  have hcan : lineCanStart s s.compositor.lines.length = true := by simp [lineCanStart, hl, hb, hc, hroom, hdue]
  show execLineOutputStart input s = _
  rw [execLineOutputStart, hcan]
  rfl

end

/-! ## The composed line (R32, R171) -/

/-- The line composed next from a line store (R171). -/
def nextLine (input : List Rgb) (s : State) (l : FrameLatch) : List Rgb :=
  (drawingSet s l s.fetch.filling).line l input s.compositor.lines.length

theorem nextLine_getElem? (input : List Rgb) (s : State) (l : FrameLatch) {x : Nat} (hx : x < l.width) :
    (nextLine input s l)[x]? = some ((List.range 96).foldl
      ((drawingSet s l s.fetch.filling).slot x s.compositor.lines.length)
      (if l.lock = .locked then input.getD x l.plate else l.plate)) := by
  rw [nextLine, DrawingSet.line, List.getElem?_map, List.getElem?_range hx]
  rfl

/-- The part once the due line has been composed from the store filled for it, which is now in output (R160, R162,
R171). -/
def lineComposed (input : List Rgb) (s : State) (l : FrameLatch) : State :=
  (startStore s).setCompositor { s.compositor with
    lines := s.compositor.lines ++ [nextLine input s l], inputLine := input }

theorem composeLine_startStore {s : State} {l : FrameLatch} (hl : s.compositor.latch = some l) (input : List Rgb) :
    composeLine input (startStore s) = lineComposed input s l := by
  have hcompositor := composeLine_compositor (s := startStore s) hl input
  rw [composeLine_eq, hcompositor]
  rfl

theorem crossings_lineComposed (input : List Rgb) (s : State) (l : FrameLatch) (y : Nat) :
    crossings (lineComposed input s l) y = crossings s y := crossings_congr rfl rfl rfl rfl rfl rfl y

/-- Settles O50: a line acts only where it is due; there a blanked frame's goes by, and any other is composed and the
next one's fetch begins. -/
theorem lineOutputOutcome : Obligations.LineOutputOutcome := by
  unfold Obligations.LineOutputOutcome
  refine ⟨fun input s hidle => ?idle, fun input s l hl hb hroom hdue => ?blanked,
    fun input s l hl hb hcomputing hroom => ?composed⟩
  case idle =>
    by_contra hacts
    obtain ⟨l, hl, hroom, hdue, hready⟩ := lineOutputStart_acts hacts
    rcases hidle with hlatch | ⟨hcomputing, hb⟩ | hsource | ⟨hsource, hinterval⟩ | ⟨hsource, hearly⟩ | ⟨l', hl', hlast⟩
    · simp [hl] at hlatch
    · simp [hcomputing, hb] at hready
    · simp [lineIsDue_iff, hsource] at hdue
    · simp [lineIsDue_iff, hsource, hinterval] at hdue
    · rcases lineIsDue_iff.1 hdue with ⟨hinput, -⟩ | ⟨-, g, hg, htime⟩
      · simp [hsource] at hinput
      · exact absurd htime (Nat.not_le.2 (hearly g hg))
    · obtain rfl : l = l' := Option.some.inj (hl.symm.trans hl')
      omega
  case blanked =>
    exact exec_lineOutputStart_blanked hl hroom (lineIsDue_iff.2 hdue) hb input
  case composed =>
    intro y hdue
    refine ⟨nextLine input s l, (fetchLine (y + 1) (lineComposed input s l)).fetch, ?_, DrawingSet.line_length _ _ _ _,
      fun x hx => nextLine_getElem? input s l hx, ?_⟩
    · rw [exec_lineOutputStart_composed hl hroom (lineIsDue_iff.2 hdue) hb hcomputing, composeLine_startStore hl,
        fetchLine_eq]
      rfl
    · obtain ⟨houtput, hlatch, hslots, hwidth, hheight, hcorrected, huncorrectable, hunderruns⟩ :=
        fetchLine_fetch_kept (y + 1) (lineComposed input s l)
      refine ⟨houtput, hlatch, hslots, hwidth, hheight, hcorrected, huncorrectable, hunderruns, fun hpast => ?_,
        fun hwithin => ?_⟩
      · exact fetchLine_past (s := lineComposed input s l) hpast
      · have hline := fetchLine_within (s := lineComposed input s l) hwithin
        rw [crossings_lineComposed] at hline
        exact hline

end Sys2Proof.Machine
end

section
/-! PROOFS. An input frame start in LOCKED, and what a frame boundary takes (R24, R27 to R29, R31, R52, R92 to R170). -/

namespace Sys2Proof.Machine

/-! ## An input frame start in LOCKED (R24, R27 to R29) -/

theorem takeFrameStart_locked {s : State} (hlock : s.timing.lock = .locked) {p : InProgress}
    (hp : s.timing.current = some p) (further : Nat) {l : List Measurement}
    (hl : appendMeasurement s.timing.measurements (p.complete further s.now) = l) : takeFrameStart further s =
      lockedStart (matchingGeometry l s.setup.canvas) (s.setTiming (s.timing.rearm l s.setup.canvas s.now)) := by
  have hl' : completedList s.timing further s.now = l := by simp only [completedList, hp, hl]
  simp only [takeFrameStart, hlock, hl']

section
variable {s : State} {m : Measurement}

theorem lockedStart_input (h : s.timing.source = .input) : lockedStart (some m) s =
    frameBoundary .input (s.setTiming { s.timing with generatorPeriod := some (lockedPeriod m) }) := by
  simp only [lockedStart, h]

theorem lockedStart_awaitingInput (h : s.timing.source = .awaitingInput) : lockedStart (some m) s =
    s.setTiming { s.timing with
      generatorPeriod := some (lockedPeriod m), source := .input, generatorFrame := none
      blankingPassed := waitLines s } := by
  simp only [lockedStart, h]

theorem lockedStart_generator (h : s.timing.source = .generator) : lockedStart (some m) s =
    s.setTiming { s.timing with generatorPeriod := some (lockedPeriod m) } := by
  simp only [lockedStart, h]

theorem lockedStart_lost (h : s.timing.source ≠ .generator) : lockedStart none s =
    frameBoundary .generator (s.setTiming { s.timing with lock := .mismatch }) := by
  cases hs : s.timing.source with
  | generator => exact absurd hs h
  | awaitingInput => simp only [lockedStart, hs]
  | input => simp only [lockedStart, hs]

theorem lockedStart_lost_generator (h : s.timing.source = .generator) : lockedStart none s =
    s.setTiming { s.timing with lock := .mismatch } := by
  simp only [lockedStart, h]

end

/-- Settles O53: the completed list gives the median, and what times the frame decides what the median does to it. -/
theorem frameStartInLock : Obligations.FrameStartInLock := by
  unfold Obligations.FrameStartInLock
  intro further waitLines s p g hreset hlock hp m list u known lost hg
  have step : exec (.inputFrameStart further waitLines) s =
      .next (lockedStart (matchingGeometry list s.setup.canvas) u) := by
    have hopen : openInterval s = s.setReceiver u.receiver := by
      rw [openInterval, Receiver.endInterval_open]
    have hrearm : s.timing.rearm list s.setup.canvas s.now = u.timing := Timing.rearm_append _ _ _ _ _
    rw [exec_inputFrameStart hreset, hopen,
      takeFrameStart_locked (s := s.setReceiver u.receiver) (l := list) hlock hp further rfl]
    rw [State.setReceiver_timing, State.setReceiver_now, State.setReceiver_setup, hrearm]
    rfl
  rw [step, matchingGeometry_some hg]
  refine ⟨fun hmatch => ?_, fun hmatch => ?_⟩
  · rw [if_pos hmatch]
    refine ⟨fun hsource => ?_, fun hsource => ?_, fun hsource => ?_⟩
    · rw [lockedStart_input (s := u) hsource]; rfl
    · rw [lockedStart_awaitingInput (s := u) hsource]; rfl
    · rw [lockedStart_generator (s := u) hsource]; rfl
  · rw [if_neg (by simp [hmatch])]
    refine ⟨fun hsource => ?_, fun hsource => ?_⟩
    · rw [lockedStart_lost (s := u) hsource]; rfl
    · rw [lockedStart_lost_generator (s := u) hsource]; rfl

/-! ## The Fetch Unit at a boundary (R157, R159 to R161) -/

/-- The part with the Fetch Unit's latches taken, before the fetch of line 0 begins (R157). -/
def fetchLatched (s : State) : State :=
  s.setFetch { s.fetch.abandon with
    output := []
    tileLatch := Table.ofFn 256 fun t => latchTile (s.pictures.directory.read t)
    width := s.setup.canvas.width.toNat
    height := s.setup.canvas.height.toNat
    slots := s.setup.slots }

/-- The part at a boundary of which the fetch of line 0 alone has not begun. -/
def boundaryLatched (source : TimingSource) (s : State) : State := fetchLatched (boundaryBlocks source s)

theorem frameBoundary_eq_fetchLine (source : TimingSource) (s : State) :
    frameBoundary source s = fetchLine 0 (boundaryLatched source s) := rfl

theorem boundaryBlocks_fetch (source : TimingSource) (s : State) : (boundaryBlocks source s).fetch = s.fetch := by
  simp [boundaryBlocks, compositorBoundary, engineBoundary, picturesBoundary, stagerBoundary, timeBaseBoundary,
    timingBoundary]

theorem boundaryBlocks_setup (source : TimingSource) (s : State) : (boundaryBlocks source s).setup = s.setup := by
  simp [boundaryBlocks, compositorBoundary, engineBoundary, picturesBoundary, stagerBoundary, timeBaseBoundary,
    timingBoundary]

theorem boundaryLatched_fetch (source : TimingSource) (s : State) : (boundaryLatched source s).fetch =
    { s.fetch.abandon with
      output := []
      tileLatch := Table.ofFn 256 fun t => latchTile ((frameBoundary source s).pictures.directory.read t)
      width := s.setup.canvas.width.toNat
      height := s.setup.canvas.height.toNat
      slots := s.setup.slots } := by
  have hpictures : (boundaryBlocks source s).pictures = (frameBoundary source s).pictures := by
    rw [frameBoundary_eq_fetchLine, fetchLine_pictures]; rfl
  rw [boundaryLatched, fetchLatched, State.setFetch_fetch, boundaryBlocks_fetch, boundaryBlocks_setup, hpictures]

/-- The slots that cross line 0 are those of the new frame. -/
theorem crossings_boundaryLatched (source : TimingSource) (s : State) :
    crossings (boundaryLatched source s) 0 = crossings (frameBoundary source s) 0 := by
  obtain ⟨-, hlatch, hslots, hwidth, hheight, -⟩ := fetchLine_fetch_kept 0 (boundaryLatched source s)
  rw [frameBoundary_eq_fetchLine]
  exact (crossings_congr (by rw [fetchLine_engine]) hlatch hslots hwidth hheight (by rw [fetchLine_setup]) 0).symm

/-- Settles O55, block by block: each one's part of the boundary reads what the parts before it have left. -/
theorem boundaryLatches : Obligations.BoundaryLatches := by
  unfold Obligations.BoundaryLatches
  intro source s t
  have hfetch := boundaryLatched_fetch source s
  obtain ⟨houtput, hlatch, hslots, hwidth, hheight, hcorrected, huncorrectable, hunderruns⟩ :=
    fetchLine_fetch_kept 0 (boundaryLatched source s)
  rw [hfetch, ← frameBoundary_eq_fetchLine] at houtput hlatch hslots hwidth hheight hcorrected huncorrectable hunderruns
  have htimeBase : t.timeBase = (timeBaseBoundary s).timeBase := frameBoundary_timeBase source s
  refine ⟨frameBoundary_timing source s, htimeBase, frameBoundary_live source s, frameBoundary_stager source s,
    frameBoundary_pictures source s, by rw [htimeBase]; rfl, by rw [htimeBase]; rfl, by rw [htimeBase]; rfl,
    by rw [htimeBase]; rfl, frameBoundary_compositor source s, fun k hk => ?latch, hwidth, hheight, hslots, houtput,
    hunderruns, hcorrected, huncorrectable, ⟨fun hpos => ?within, fun hzero => ?past⟩, ?snapshot,
    frameBoundary_receiver source s, frameBoundary_setup source s, frameBoundary_memory source s,
    frameBoundary_arbiter source s, frameBoundary_port source s, frameBoundary_now source s⟩
  case latch =>
    show (frameBoundary source s).fetch.tileLatch.read k = _
    rw [hlatch, Table.read_ofFn, if_pos hk]
    rfl
  case within =>
    have hline := fetchLine_within (y := 0) (s := boundaryLatched source s) (by rw [hfetch]; exact hpos)
    rw [← frameBoundary_eq_fetchLine, crossings_boundaryLatched, hfetch] at hline
    exact hline
  case past =>
    obtain ⟨hlist, htodo, hfetching, hfilling, hover⟩ :=
      fetchLine_past (y := 0) (s := boundaryLatched source s) (by rw [hfetch]; exact Nat.le_of_eq hzero)
    rw [hfetch] at hover
    exact ⟨hlist, htodo, hfilling, hfetching, hover⟩
  case snapshot =>
    have hsetup : t.setup = s.setup := frameBoundary_setup source s
    refine ⟨takeSnapshot t, by rw [show t.engine = _ from frameBoundary_engine source s], rfl, rfl, ?_⟩
    rw [← hsetup]
    refine ⟨rfl, rfl, rfl, rfl, fun g hg => ?_⟩
    show (Table.ofFn 16 _).read g = _
    rw [Table.read_ofFn, if_pos hg]
    rfl

end Sys2Proof.Machine
end

section
/-! SUPPORT. The entries of the setup tables: fields as numbers, the numbers of the listed values, and what the check of
each table takes and stores (R42 to R51). -/

namespace Sys2Proof.Machine

/-! ## Fields -/

theorem leNat_lt (bytes : List Byte) : leNat bytes < 256 ^ bytes.length := by
  induction bytes with
  | nil => exact Nat.one_pos
  | cons b bytes ih =>
    have hb := b.isLt
    rw [leNat, List.length_cons, Nat.pow_succ']
    omega

theorem field_lt (e : List Byte) (offset n : Nat) : field e offset n < 256 ^ n :=
  Nat.lt_of_lt_of_le (leNat_lt _) (Nat.pow_le_pow_right (by decide) (by simp))

@[simp] theorem word16At_toNat (e : List Byte) (offset : Nat) : (word16At e offset).toNat = field e offset 2 :=
  Nat.mod_eq_of_lt (field_lt e offset 2)

theorem clamp_within {low high : Nat} (h : low ≤ high) (n : Nat) : within low high (clamp low high n) :=
  ⟨Nat.le_max_left _ _, by unfold clamp; omega⟩

theorem clamp_of_within {low high n : Nat} (h : within low high n) : clamp low high n = n := by
  obtain ⟨hlow, hhigh⟩ := h
  unfold clamp
  omega

/-- A clamped field stands in its word as it is, where the range fits the word. -/
theorem ofNat_clamp {w low high : Nat} (hle : low ≤ high) (hfit : high < 2 ^ w) (n : Nat) :
    (BitVec.ofNat w (clamp low high n)).toNat = clamp low high n :=
  Nat.mod_eq_of_lt (Nat.lt_of_le_of_lt (clamp_within hle n).2 hfit)

/-- A word within the range comes back from its clamped number. -/
theorem ofNat_clamp_toNat {w low high : Nat} {x : BitVec w} (h : within low high x.toNat) :
    BitVec.ofNat w (clamp low high x.toNat) = x := by
  rw [clamp_of_within h, BitVec.ofNat_toNat, BitVec.setWidth_eq]

/-! ## Listed values -/

@[simp] theorem finOf_eq_some {k n : Nat} {i : Fin k} : finOf k n = some i ↔ i.val = n := by
  unfold finOf
  split
  · simp [Fin.ext_iff, eq_comm]
  · have := i.isLt
    simp only [reduceCtorEq, false_iff]
    omega

@[simp] theorem finOf_eq_none {k n : Nat} : finOf k n = none ↔ k ≤ n := by
  unfold finOf
  split <;> simp <;> omega

theorem bit_le (b : Bool) : bit b ≤ 1 := by cases b <;> decide

/-- A yes/no field by its number (R42). -/
theorem yesNo_eq (b : Byte) :
    yesNo b = if b.toNat = 0 then some false else if b.toNat = 1 then some true else none := by
  simp [yesNo, BitVec.toNat_eq]

@[simp] theorem yesNo_eq_some {b : Byte} {x : Bool} : yesNo b = some x ↔ bit x = b.toNat := by
  rw [yesNo_eq]
  split
  · cases x <;> simp [bit, *]
  · split <;> cases x <;> simp [bit, *] <;> omega

@[simp] theorem yesNo_eq_none {b : Byte} : yesNo b = none ↔ 1 < b.toNat := by
  rw [yesNo_eq]
  split
  · simp; omega
  · split <;> simp <;> omega

@[simp] theorem Alignment.ofNumber_eq_some {n : Nat} {a : Alignment} :
    Alignment.ofNumber n = some a ↔ a.number = n := by
  match n with
  | 0 | 1 | 2 | n + 3 => cases a <;> simp [ofNumber, number]

@[simp] theorem Alignment.ofNumber_eq_none {n : Nat} : Alignment.ofNumber n = none ↔ 2 < n := by
  match n with
  | 0 | 1 | 2 | n + 3 => simp [ofNumber]

@[simp] theorem Treatment.ofNumber_eq_some {n : Nat} {a : Treatment} :
    Treatment.ofNumber n = some a ↔ a.number = n := by
  match n with
  | 0 | 1 | 2 | 3 | n + 4 => cases a <;> simp [ofNumber, number]

@[simp] theorem Treatment.ofNumber_eq_none {n : Nat} : Treatment.ofNumber n = Option.none ↔ 3 < n := by
  match n with
  | 0 | 1 | 2 | 3 | n + 4 => simp [ofNumber]

@[simp] theorem Decimals.ofNumber_eq_some {n : Nat} {a : Decimals} :
    Decimals.ofNumber n = some a ↔ a.number = n := by
  match n with
  | 0 | 1 | 2 | n + 3 => cases a <;> simp [ofNumber, number]

@[simp] theorem Decimals.ofNumber_eq_none {n : Nat} : Decimals.ofNumber n = none ↔ n ∉ [0, 2] := by
  match n with
  | 0 | 1 | 2 | n + 3 => simp [ofNumber]

@[simp] theorem Currency.ofNumber_eq_some {n : Nat} {a : Currency} :
    Currency.ofNumber n = some a ↔ a.number = n := by
  match n with
  | 0 | 1 | 2 | n + 3 => cases a <;> simp [ofNumber, number]

@[simp] theorem Currency.ofNumber_eq_none {n : Nat} : Currency.ofNumber n = Option.none ↔ 2 < n := by
  match n with
  | 0 | 1 | 2 | n + 3 => simp [ofNumber]

@[simp] theorem TaxMode.ofNumber_eq_some {n : Nat} {a : TaxMode} : TaxMode.ofNumber n = some a ↔ a.number = n := by
  match n with
  | 0 | 1 | n + 2 => cases a <;> simp [ofNumber, number]

@[simp] theorem TaxMode.ofNumber_eq_none {n : Nat} : TaxMode.ofNumber n = none ↔ 1 < n := by
  match n with
  | 0 | 1 | n + 2 => simp [ofNumber]

@[simp] theorem Rounding.ofNumber_eq_some {n : Nat} {a : Rounding} :
    Rounding.ofNumber n = some a ↔ a.number = n := by
  match n with
  | 0 | 1 | 2 | 3 | n + 4 => cases a <;> simp [ofNumber, number]

@[simp] theorem Rounding.ofNumber_eq_none {n : Nat} : Rounding.ofNumber n = none ↔ 3 < n := by
  match n with
  | 0 | 1 | 2 | 3 | n + 4 => simp [ofNumber]

@[simp] theorem Granularity.ofNumber_eq_some {n : Nat} {a : Granularity} :
    Granularity.ofNumber n = some a ↔ a.units = n := by
  unfold ofNumber
  split <;> cases a <;> simp_all [units, eq_comm]

@[simp] theorem Granularity.ofNumber_eq_none {n : Nat} :
    Granularity.ofNumber n = none ↔ n ∉ [1, 5, 10, 50, 100] := by
  unfold ofNumber
  split <;> simp_all

@[simp] theorem KeyMode.ofNumber_eq_some {n : Nat} {a : KeyMode} : KeyMode.ofNumber n = some a ↔ a.number = n := by
  match n with
  | 0 | 1 | n + 2 => cases a <;> simp [ofNumber, number]

@[simp] theorem KeyMode.ofNumber_eq_none {n : Nat} : KeyMode.ofNumber n = none ↔ 1 < n := by
  match n with
  | 0 | 1 | n + 2 => simp [ofNumber]

/-- A written member count is taken up to 8, and stored as at least 1 (R50). -/
@[simp] theorem memberCount_eq_some {n count : Nat} : memberCount n = some count ↔ n ≤ 8 ∧ count = max 1 n := by
  unfold memberCount
  split
  · simp; omega
  · split <;> simp <;> omega

@[simp] theorem memberCount_eq_none {n : Nat} : memberCount n = none ↔ 8 < n := by
  unfold memberCount
  split
  · simp; omega
  · split <;> simp <;> omega

/-- The number a leader field spells: a group's, or 255 for none (R50). -/
theorem leaderByte_toNat (l : Option (Fin 16)) : (leaderByte l).toNat = (l.map Fin.val).getD 255 := by
  cases l with
  | none => rfl
  | some h => exact Nat.mod_eq_of_lt (Nat.lt_trans h.isLt (by decide))

@[simp] theorem leaderField_eq_some {n : Nat} {l : Option (Fin 16)} :
    leaderField n = some l ↔ (l.map Fin.val).getD 255 = n := by
  unfold leaderField
  split
  · cases l with
    | none => simp [*]
    | some h =>
      have := h.isLt
      simp
      omega
  · cases l with
    | none => simp; omega
    | some h => simp

@[simp] theorem leaderField_eq_none {n : Nat} : leaderField n = none ↔ 15 < n ∧ n ≠ 255 := by
  unfold leaderField
  split
  · simp [*]
  · simp; omega

/-- A written dwell is stored as at least 1 (R50). -/
theorem dwellField_toNat {n : Nat} (h : n < 65536) : (dwellField n).toNat = max 1 n := by
  unfold dwellField
  split
  · simp [*]
  · rw [BitVec.toNat_ofNat]; omega

/-- Two checks in a row fail when the first fails, or when the second does, if it does so whatever the first gave. -/
theorem bind_eq_none_or {α β : Type} {o : Option α} {f : α → Option β} {p : Prop} (h : ∀ a, f a = none ↔ p) :
    (o >>= f) = none ↔ o = none ∨ p := by
  cases o with
  | none => simp
  | some a => simp [h]

/-- A check that stores a value fails when the check does. -/
theorem bind_pure_eq_none {α β : Type} {o : Option α} {f : α → β} : (o >>= fun a => pure (f a)) = none ↔ o = none := by
  cases o <;> simp

/-! ## What each table takes and stores -/

theorem word16At_eq_iff {e : List Byte} {offset : Nat} {w : Word16} :
    word16At e offset = w ↔ w.toNat = field e offset 2 := by
  rw [BitVec.toNat_eq, word16At_toNat, eq_comm]

theorem ofNat_clamp_eq_iff {w low high n : Nat} {x : BitVec w} (hle : low ≤ high) (hfit : high < 2 ^ w) :
    BitVec.ofNat w (clamp low high n) = x ↔ x.toNat = clamp low high n := by
  rw [BitVec.toNat_eq, ofNat_clamp hle hfit, eq_comm]

/-- The stored load share is a listed one, the largest that is not above the written one (R43). -/
theorem clampShare_largest (b : Byte) : clampShare b ∈ legalShares ∧ (clampShare b).toNat ≤ b.toNat ∧
    ∀ x ∈ legalShares, x.toNat ≤ b.toNat → x.toNat ≤ (clampShare b).toNat := by
  unfold clampShare legalShares
  simp only [List.forall_mem_cons]
  split
  · simp; omega
  · split
    · simp; omega
    · split
      · simp; omega
      · split <;> simp <;> omega

/-- A listed load share is stored as it is (R43). -/
theorem clampShare_of_legal {b : Byte} (h : b ∈ legalShares) : clampShare b = b :=
  (by decide : ∀ b ∈ legalShares, clampShare b = b) b h

theorem decodeCanvas_eq_some {e : List Byte} {c : CanvasEntry} : decodeCanvas e = some c ↔
    within 64 8192 (field e 0 2) ∧ within 64 2304 (field e 2 2) ∧ c.width.toNat = field e 0 2 ∧
    c.height.toNat = field e 2 2 ∧ c.plate = rgbAt e 4 ∧ c.loadShare = clampShare (byteAt e 7) ∧
    c.nominalPeriod.toNat = clamp 8000 50000 (field e 8 2) := by
  obtain ⟨width, height, plate, share, period⟩ := c
  simp only [decodeCanvas, Option.ite_none_right_eq_some, Option.some.injEq, CanvasEntry.mk.injEq, word16At_eq_iff,
    ofNat_clamp_eq_iff (by decide : 8000 ≤ 50000) (by decide : 50000 < 2 ^ 16), within, and_assoc,
    eq_comm (a := rgbAt e 4), eq_comm (a := clampShare _)]

theorem decodeCanvas_eq_none {e : List Byte} : decodeCanvas e = none ↔
    field e 0 2 < 64 ∨ 8192 < field e 0 2 ∨ field e 2 2 < 64 ∨ 2304 < field e 2 2 := by
  simp only [decodeCanvas, ite_eq_right_iff, reduceCtorEq, imp_false]
  omega

theorem decodeHead_eq_some {e : List Byte} {h : HeadEntry} : decodeHead e = some h ↔
    bit h.enabled = (byteAt e 0).toNat ∧ h.x.toNat = field e 2 2 ∧ h.y.toNat = field e 4 2 ∧
    h.w.toNat = clamp 1 4096 (field e 6 2) ∧ h.h.toNat = clamp 1 2304 (field e 8 2) ∧ h.blank = rgbAt e 10 := by
  obtain ⟨enabled, x, y, w, height, blank⟩ := h
  simp only [decodeHead, Option.bind_eq_bind, Option.bind_eq_some_iff, yesNo_eq_some, Option.pure_def,
    Option.some.injEq, HeadEntry.mk.injEq, word16At_eq_iff,
    ofNat_clamp_eq_iff (by decide : 1 ≤ 4096) (by decide : 4096 < 2 ^ 16),
    ofNat_clamp_eq_iff (by decide : 1 ≤ 2304) (by decide : 2304 < 2 ^ 16), eq_comm (a := rgbAt e 10)]
  exact ⟨fun ⟨_, hb, rfl, hrest⟩ => ⟨hb, hrest⟩, fun ⟨hb, hrest⟩ => ⟨_, hb, rfl, hrest⟩⟩

theorem decodeHead_eq_none {e : List Byte} : decodeHead e = none ↔ 1 < (byteAt e 0).toNat :=
  bind_pure_eq_none.trans yesNo_eq_none

theorem decodeSlot_eq_some {e : List Byte} {x : SlotEntry} : decodeSlot e = some x ↔
    x.x.toNat = field e 0 2 ∧ x.y.toNat = field e 2 2 ∧ x.w.toNat = field e 4 2 ∧ x.h.toNat = field e 6 2 ∧
    x.tx.toNat = field e 8 2 ∧ x.ty.toNat = field e 10 2 ∧ x.px.toNat = field e 12 2 ∧ x.py.toNat = field e 14 2 ∧
    x.pw.toNat = clamp 0 8191 (field e 16 2) ∧ x.ph.toNat = clamp 0 8191 (field e 18 2) ∧
    x.font.val = (byteAt e 20).toNat % 16 ∧ x.format.val = (byteAt e 20).toNat / 16 ∧
    x.alignment.number = (byteAt e 21).toNat ∧ x.treatment.number = (byteAt e 22).toNat ∧ x.dayparts = byteAt e 23 ∧
    x.priceColour = rgbAt e 24 ∧ x.fillColour = rgbAt e 27 ∧ x.fillAlpha = byteAt e 30 ∧ x.d = byteAt e 31 := by
  have box {n : Nat} {w : Word16} : BitVec.ofNat 16 (clamp 0 8191 n) = w ↔ w.toNat = clamp 0 8191 n :=
    ofNat_clamp_eq_iff (by decide) (by decide)
  simp only [decodeSlot, Option.bind_eq_bind, Option.bind_eq_some_iff, finOf_eq_some, Alignment.ofNumber_eq_some,
    Treatment.ofNumber_eq_some, Option.pure_def, Option.some.injEq]
  constructor
  · rintro ⟨font, hfont, format, hformat, alignment, halignment, treatment, htreatment, rfl⟩
    exact ⟨word16At_toNat _ _, word16At_toNat _ _, word16At_toNat _ _, word16At_toNat _ _, word16At_toNat _ _,
      word16At_toNat _ _, word16At_toNat _ _, word16At_toNat _ _, box.1 rfl, box.1 rfl, hfont, hformat, halignment,
      htreatment, rfl, rfl, rfl, rfl, rfl⟩
  · rintro ⟨hx, hy, hw, hh, htx, hty, hpx, hpy, hpw, hph, hfont, hformat, halignment, htreatment, hdayparts, hprice,
      hfill, halpha, hd⟩
    refine ⟨x.font, hfont, x.format, hformat, x.alignment, halignment, x.treatment, htreatment, ?_⟩
    rw [word16At_eq_iff.2 hx, word16At_eq_iff.2 hy, word16At_eq_iff.2 hw, word16At_eq_iff.2 hh,
      word16At_eq_iff.2 htx, word16At_eq_iff.2 hty, word16At_eq_iff.2 hpx, word16At_eq_iff.2 hpy, box.2 hpw,
      box.2 hph, ← hdayparts, ← hprice, ← hfill, ← halpha, ← hd]

theorem decodeSlot_eq_none {e : List Byte} : decodeSlot e = none ↔
    3 < (byteAt e 20).toNat % 16 ∨ 7 < (byteAt e 20).toNat / 16 ∨ 2 < (byteAt e 21).toNat ∨
      3 < (byteAt e 22).toNat := by
  refine (bind_eq_none_or fun font => bind_eq_none_or fun format => bind_eq_none_or fun alignment =>
    bind_pure_eq_none).trans ?_
  simp only [finOf_eq_none, Alignment.ofNumber_eq_none, Treatment.ofNumber_eq_none, Nat.lt_iff_add_one_le]

theorem decodeFormat_eq_some {e : List Byte} {f : FormatEntry} : decodeFormat e = some f ↔
    f.decimals.number = (byteAt e 0).toNat ∧ f.currency.number = (byteAt e 1).toNat ∧
    f.taxMode.number = (byteAt e 2).toNat ∧ f.rate.val = field e 3 2 ∧ f.rounding.number = (byteAt e 5).toNat ∧
    f.granularity.units = (byteAt e 6).toNat ∧ f.raised = (byteAt e 7).getLsbD 0 ∧
    f.dropZeroFraction = (byteAt e 7).getLsbD 1 ∧ f.zeroMark = (byteAt e 7).getLsbD 2 := by
  simp only [decodeFormat, Option.bind_eq_bind, Option.bind_eq_some_iff, finOf_eq_some, Decimals.ofNumber_eq_some,
    Currency.ofNumber_eq_some, TaxMode.ofNumber_eq_some, Rounding.ofNumber_eq_some, Granularity.ofNumber_eq_some,
    Option.pure_def, Option.some.injEq]
  constructor
  · rintro ⟨_, hdecimals, _, hcurrency, _, htax, _, hrate, _, hrounding, _, hgranularity, rfl⟩
    exact ⟨hdecimals, hcurrency, htax, hrate, hrounding, hgranularity, rfl, rfl, rfl⟩
  · rintro ⟨hdecimals, hcurrency, htax, hrate, hrounding, hgranularity, hraised, hdrop, hzero⟩
    refine ⟨_, hdecimals, _, hcurrency, _, htax, _, hrate, _, hrounding, _, hgranularity, ?_⟩
    rw [← hraised, ← hdrop, ← hzero]

theorem decodeFormat_eq_none {e : List Byte} : decodeFormat e = none ↔
    (byteAt e 0).toNat ∉ [0, 2] ∨ 2 < (byteAt e 1).toNat ∨ 1 < (byteAt e 2).toNat ∨ 5000 < field e 3 2 ∨
      3 < (byteAt e 5).toNat ∨ (byteAt e 6).toNat ∉ [1, 5, 10, 50, 100] := by
  refine (bind_eq_none_or fun decimals => bind_eq_none_or fun currency => bind_eq_none_or fun taxMode =>
    bind_eq_none_or fun rate => bind_eq_none_or fun rounding => bind_pure_eq_none).trans ?_
  simp only [finOf_eq_none, Decimals.ofNumber_eq_none, Currency.ofNumber_eq_none, TaxMode.ofNumber_eq_none,
    Rounding.ofNumber_eq_none, Granularity.ofNumber_eq_none, Nat.lt_iff_add_one_le]

theorem decodeFontHeight_toNat (e : List Byte) :
    (decodeFontHeight e).toNat = clamp 8 96 (byteAt e 0).toNat := ofNat_clamp (by decide) (by decide) _

theorem decodeMetric_eq_some {e : List Byte} {m : Metric} : decodeMetric e = some m ↔
    bit m.present = (byteAt e 0).toNat ∧ m.width.toNat = clamp 1 64 (byteAt e 1).toNat ∧
    m.advance.toNat = clamp 1 80 (byteAt e 2).toNat := by
  obtain ⟨present, width, advance⟩ := m
  simp only [decodeMetric, Option.bind_eq_bind, Option.bind_eq_some_iff, yesNo_eq_some, Option.pure_def,
    Option.some.injEq, Metric.mk.injEq, ofNat_clamp_eq_iff (by decide : 1 ≤ 64) (by decide : 64 < 2 ^ 8),
    ofNat_clamp_eq_iff (by decide : 1 ≤ 80) (by decide : 80 < 2 ^ 8)]
  exact ⟨fun ⟨_, hb, rfl, hrest⟩ => ⟨hb, hrest⟩, fun ⟨hb, hrest⟩ => ⟨_, hb, rfl, hrest⟩⟩

theorem decodeMetric_eq_none {e : List Byte} : decodeMetric e = none ↔ 1 < (byteAt e 0).toNat :=
  bind_pure_eq_none.trans yesNo_eq_none

theorem decodeSchedule_eq_some {e : List Byte} {x : ScheduleEntry} : decodeSchedule e = some x ↔
    bit x.enabled = (byteAt e 0).toNat ∧ x.book.val = (byteAt e 1).toNat ∧ x.start.val = field e 2 2 := by
  simp only [decodeSchedule, Option.bind_eq_bind, Option.bind_eq_some_iff, yesNo_eq_some, finOf_eq_some,
    Option.pure_def, Option.some.injEq]
  exact ⟨fun ⟨_, henabled, _, hbook, _, hstart, hx⟩ => hx ▸ ⟨henabled, hbook, hstart⟩,
    fun ⟨henabled, hbook, hstart⟩ => ⟨_, henabled, _, hbook, _, hstart, rfl⟩⟩

theorem decodeSchedule_eq_none {e : List Byte} : decodeSchedule e = none ↔
    1 < (byteAt e 0).toNat ∨ 3 < (byteAt e 1).toNat ∨ 1439 < field e 2 2 := by
  refine (bind_eq_none_or fun enabled => bind_eq_none_or fun book => bind_pure_eq_none).trans ?_
  simp only [yesNo_eq_none, finOf_eq_none, Nat.lt_iff_add_one_le]

/-- All eight members of a group's entry stand in its list. -/
theorem GroupEntry.members_eq (g : GroupEntry) :
    #v[g.member 0, g.member 1, g.member 2, g.member 3, g.member 4, g.member 5, g.member 6, g.member 7] = g.members := by
  obtain ⟨⟨⟨l⟩, hl⟩, _, _, _, _, _⟩ := g
  simp only [List.size_toArray] at hl
  match l, hl with
  | [_, _, _, _, _, _, _, _], _ => rfl

/-- The mode bit of a group's entry (R50). -/
theorem oneShot_iff {b : Bool} {m : GroupMode} :
    (if b then GroupMode.oneShot else .repeating) = m ↔ (m = .oneShot ↔ b = true) := by
  cases b <;> cases m <;> simp

theorem decodeGroup_eq_some {e : List Byte} {g : GroupEntry} : decodeGroup e = some g ↔
    (∀ k < 8, (g.member k).val = field e (2 * k) 2) ∧ (byteAt e 16).toNat % 16 ≤ 8 ∧
    g.count = max 1 ((byteAt e 16).toNat % 16) ∧ (g.mode = .oneShot ↔ (byteAt e 16).getLsbD 4 = true) ∧
    g.skipUnavailable = (byteAt e 16).getLsbD 5 ∧ (g.leader.map Fin.val).getD 255 = (byteAt e 17).toNat ∧
    g.dwell.toNat = max 1 (field e 18 2) := by
  have dwell := dwellField_toNat (field_lt e 18 2)
  simp only [decodeGroup, Option.bind_eq_bind, Option.bind_eq_some_iff, finOf_eq_some, memberCount_eq_some,
    leaderField_eq_some, Option.pure_def, Option.some.injEq]
  constructor
  · rintro ⟨m0, h0, m1, h1, m2, h2, m3, h3, m4, h4, m5, h5, m6, h6, m7, h7, count, ⟨hle, rfl⟩, leader, hleader, rfl⟩
    refine ⟨fun k hk => ?_, hle, rfl, ?_, rfl, hleader, dwell⟩
    · match k, hk with
      | 0, _ => exact h0
      | 1, _ => exact h1
      | 2, _ => exact h2
      | 3, _ => exact h3
      | 4, _ => exact h4
      | 5, _ => exact h5
      | 6, _ => exact h6
      | 7, _ => exact h7
    · exact oneShot_iff.1 rfl
  · rintro ⟨hmembers, hle, hcount, hmode, hskip, hleader, hdwell⟩
    refine ⟨_, hmembers 0 (by decide), _, hmembers 1 (by decide), _, hmembers 2 (by decide), _,
      hmembers 3 (by decide), _, hmembers 4 (by decide), _, hmembers 5 (by decide), _, hmembers 6 (by decide), _,
      hmembers 7 (by decide), _, ⟨hle, hcount⟩, _, hleader, ?_⟩
    rw [g.members_eq, oneShot_iff.2 hmode, ← hskip, BitVec.eq_of_toNat_eq (dwell.trans hdwell.symm)]

theorem exists_lt_eight {p : Nat → Prop} :
    (∃ k < 8, p k) ↔ p 0 ∨ p 1 ∨ p 2 ∨ p 3 ∨ p 4 ∨ p 5 ∨ p 6 ∨ p 7 := by
  constructor
  · rintro ⟨k, hk, h⟩
    interval_cases k <;> simp only [h, true_or, or_true]
  · rintro (h | h | h | h | h | h | h | h) <;> exact ⟨_, by decide, h⟩

theorem decodeGroup_eq_none {e : List Byte} : decodeGroup e = none ↔
    (∃ k < 8, 1023 < field e (2 * k) 2) ∨ 8 < (byteAt e 16).toNat % 16 ∨
      (15 < (byteAt e 17).toNat ∧ (byteAt e 17).toNat ≠ 255) := by
  refine (bind_eq_none_or fun m0 => bind_eq_none_or fun m1 => bind_eq_none_or fun m2 => bind_eq_none_or fun m3 =>
    bind_eq_none_or fun m4 => bind_eq_none_or fun m5 => bind_eq_none_or fun m6 => bind_eq_none_or fun m7 =>
    bind_eq_none_or fun count => bind_pure_eq_none).trans ?_
  rw [exists_lt_eight]
  simp only [finOf_eq_none, memberCount_eq_none, leaderField_eq_none, Nat.lt_iff_add_one_le, or_assoc, Nat.reduceMul,
    Nat.reduceAdd]

theorem decodeTile_eq_some {e : List Byte} {t : TileEntry} : decodeTile e = some t ↔
    (field e 0 4 % 256 = 0 ∧ field e 0 4 < memoryBytes ∧ within 1 1024 (field e 4 2) ∧ within 1 1024 (field e 6 2)) ∧
    t.base.toNat = field e 0 4 ∧ t.width.toNat = field e 4 2 ∧ t.height.toNat = field e 6 2 ∧
    t.keyMode.number = (byteAt e 8).toNat := by
  have base : (BitVec.ofNat 32 (field e 0 4)).toNat = field e 0 4 := Nat.mod_eq_of_lt (field_lt e 0 4)
  simp only [decodeTile, Option.bind_eq_bind, Option.bind_eq_some_iff, KeyMode.ofNumber_eq_some,
    Option.ite_none_right_eq_some, Option.some.injEq, within]
  constructor
  · rintro ⟨_, hmode, ⟨halign, hmemory, hw, hw', hh⟩, rfl⟩
    exact ⟨⟨halign, hmemory, ⟨hw, hw'⟩, hh⟩, base, word16At_toNat _ _, word16At_toNat _ _, hmode⟩
  · rintro ⟨⟨halign, hmemory, ⟨hw, hw'⟩, hh⟩, hbase, hwidth, hheight, hmode⟩
    refine ⟨_, hmode, ⟨halign, hmemory, hw, hw', hh⟩, ?_⟩
    rw [word16At_eq_iff.2 hwidth, word16At_eq_iff.2 hheight, BitVec.eq_of_toNat_eq (base.trans hbase.symm)]

theorem decodeTile_eq_none {e : List Byte} : decodeTile e = none ↔
    field e 0 4 % 256 ≠ 0 ∨ 268435456 ≤ field e 0 4 ∨ field e 4 2 = 0 ∨ 1024 < field e 4 2 ∨
      field e 6 2 = 0 ∨ 1024 < field e 6 2 ∨ 1 < (byteAt e 8).toNat := by
  have bounds {p : Prop} [Decidable p] {t : TileEntry} : (if p then some t else none) = none ↔ ¬ p := by simp
  refine (bind_eq_none_or fun mode => bounds).trans ?_
  simp only [KeyMode.ofNumber_eq_none, memoryBytes]
  omega

end Sys2Proof.Machine
end

section
/-! PROOFS. The fields of the setup tables stay in their ranges, and picture memory and every table in canonical form
(R36, R37, R40, R43 to R51, R138). -/

namespace Sys2Proof.Machine

open Sys2Proof.Laws.PacketRow (packet)

/-! ## Legal setup tables -/

/-- Legality reads the Table Loader alone. -/
theorem SetupLegal.of_setup_eq {s t : State} (h : SetupLegal s) (e : t.setup = s.setup) : SetupLegal t := by
  obtain ⟨canvas, heads, slots, fonts, metrics, groups, tiles, cursor⟩ := h
  constructor <;> rwa [e]

theorem SetupLegal.setCursor {s : State} (h : SetupLegal s) {cursor : Option Cursor}
    (hc : ∀ c, cursor = some c → c.index ≤ c.table.entries) :
    SetupLegal (s.setSetup { s.setup with cursor := cursor }) := { h with cursor := hc }

/-- What holds of every entry and of the one written holds of every entry afterwards. -/
theorem Table.forall_read_write {α : Type} [DecidableEq α] {d : α} {t : Table d} {Q : α → Prop}
    (h : ∀ i, Q (t.read i)) {v : α} (hv : Q v) (i j : Nat) : Q ((t.write i v).read j) := by
  rw [Table.read_write]
  split
  · exact hv
  · exact h j

/-- What an entry that is taken changes: one entry of its table, to what the table's rule stores (R40, R43 to R51). -/
theorem putEntry_cases {table : TableId} {index : Nat} {e : List Byte} {u v : Setup}
    (h : putEntry table index e u = some v) :
    (∃ c, decodeCanvas e = some c ∧ v = { u with canvas := c }) ∨
    (∃ x, decodeHead e = some x ∧ v = { u with heads := u.heads.write index x }) ∨
    (∃ x, decodeSlot e = some x ∧ v = { u with slots := u.slots.write index x }) ∨
    (∃ x, decodeFormat e = some x ∧ v = { u with formats := u.formats.write index x }) ∨
    (∃ font, v = { u with fontHeights := u.fontHeights.write font (decodeFontHeight e) }) ∨
    (∃ k m, decodeMetric e = some m ∧ v = { u with metrics := u.metrics.write k m }) ∨
    (∃ k, v = { u with glyphs := u.glyphs.write k (byteAt e 0) }) ∨
    (∃ x, decodeSchedule e = some x ∧ v = { u with schedule := u.schedule.write index x }) ∨
    (∃ x, decodeGroup e = some x ∧ v = { u with groups := u.groups.write index x }) ∨
    ∃ x, decodeTile e = some x ∧ v = { u with tiles := u.tiles.write index x } := by
  cases table with
  | canvas =>
    obtain ⟨c, hc, rfl⟩ := Option.map_eq_some_iff.1 h
    exact .inl ⟨c, hc, rfl⟩
  | heads =>
    obtain ⟨x, hx, rfl⟩ := Option.map_eq_some_iff.1 h
    exact .inr (.inl ⟨x, hx, rfl⟩)
  | slots =>
    obtain ⟨x, hx, rfl⟩ := Option.map_eq_some_iff.1 h
    exact .inr (.inr (.inl ⟨x, hx, rfl⟩))
  | formats =>
    obtain ⟨x, hx, rfl⟩ := Option.map_eq_some_iff.1 h
    exact .inr (.inr (.inr (.inl ⟨x, hx, rfl⟩)))
  | fontMetrics =>
    simp only [putEntry] at h
    split at h
    · exact .inr (.inr (.inr (.inr (.inl ⟨_, (Option.some.inj h).symm⟩))))
    · obtain ⟨m, hm, rfl⟩ := Option.map_eq_some_iff.1 h
      exact .inr (.inr (.inr (.inr (.inr (.inl ⟨_, m, hm, rfl⟩)))))
  | glyphs font => exact .inr (.inr (.inr (.inr (.inr (.inr (.inl ⟨_, (Option.some.inj h).symm⟩))))))
  | schedule =>
    obtain ⟨x, hx, rfl⟩ := Option.map_eq_some_iff.1 h
    exact .inr (.inr (.inr (.inr (.inr (.inr (.inr (.inl ⟨x, hx, rfl⟩)))))))
  | groups =>
    obtain ⟨x, hx, rfl⟩ := Option.map_eq_some_iff.1 h
    exact .inr (.inr (.inr (.inr (.inr (.inr (.inr (.inr (.inl ⟨x, hx, rfl⟩))))))))
  | tiles =>
    obtain ⟨x, hx, rfl⟩ := Option.map_eq_some_iff.1 h
    exact .inr (.inr (.inr (.inr (.inr (.inr (.inr (.inr (.inr ⟨x, hx, rfl⟩))))))))
  | _ => cases h

/-! ### Entries within their ranges -/

/-- A CANVAS entry within its ranges (R43). -/
def CanvasEntry.Legal (c : CanvasEntry) : Prop :=
  within 64 8192 c.width.toNat ∧ within 64 2304 c.height.toNat ∧ c.loadShare ∈ legalShares ∧
    within 8000 50000 c.nominalPeriod.toNat

/-- A HEADS entry within its ranges (R44). -/
def HeadEntry.Legal (h : HeadEntry) : Prop := within 1 4096 h.w.toNat ∧ within 1 2304 h.h.toNat

/-- A SLOTS entry within its ranges (R45). -/
def SlotEntry.Legal (x : SlotEntry) : Prop := x.pw.toNat ≤ 8191 ∧ x.ph.toNat ≤ 8191

/-- A glyph's metric within its ranges (R47). -/
def Metric.Legal (m : Metric) : Prop := within 1 64 m.width.toNat ∧ within 1 80 m.advance.toNat

/-- A GROUPS entry within its ranges (R50). -/
def GroupEntry.Legal (g : GroupEntry) : Prop := within 1 8 g.count ∧ 1 ≤ g.dwell.toNat

/-- A TILES entry within its ranges (R51). -/
def TileEntry.Legal (t : TileEntry) : Prop :=
  t.base.toNat % 256 = 0 ∧ t.base.toNat < memoryBytes ∧ within 1 1024 t.width.toNat ∧ within 1 1024 t.height.toNat

section
variable {e : List Byte}

theorem decodeCanvas_legal {c : CanvasEntry} (h : decodeCanvas e = some c) : c.Legal := by
  obtain ⟨hw, hh, ew, eh, -, eshare, eperiod⟩ := decodeCanvas_eq_some.1 h
  exact ⟨ew ▸ hw, eh ▸ hh, eshare ▸ (clampShare_largest _).1, eperiod ▸ clamp_within (by decide) _⟩

theorem decodeHead_legal {x : HeadEntry} (h : decodeHead e = some x) : x.Legal := by
  obtain ⟨-, -, -, ew, eh, -⟩ := decodeHead_eq_some.1 h
  exact ⟨ew ▸ clamp_within (by decide) _, eh ▸ clamp_within (by decide) _⟩

theorem decodeSlot_legal {x : SlotEntry} (h : decodeSlot e = some x) : x.Legal := by
  obtain ⟨-, -, -, -, -, -, -, -, epw, eph, -⟩ := decodeSlot_eq_some.1 h
  exact ⟨epw ▸ (clamp_within (by decide) _).2, eph ▸ (clamp_within (by decide) _).2⟩

theorem decodeFontHeight_legal : within 8 96 (decodeFontHeight e).toNat :=
  decodeFontHeight_toNat e ▸ clamp_within (by decide) _

theorem decodeMetric_legal {m : Metric} (h : decodeMetric e = some m) : m.Legal := by
  obtain ⟨-, ew, ea⟩ := decodeMetric_eq_some.1 h
  exact ⟨ew ▸ clamp_within (by decide) _, ea ▸ clamp_within (by decide) _⟩

theorem decodeGroup_legal {g : GroupEntry} (h : decodeGroup e = some g) : g.Legal := by
  obtain ⟨-, hle, ecount, -, -, -, edwell⟩ := decodeGroup_eq_some.1 h
  exact ⟨ecount ▸ ⟨Nat.le_max_left _ _, Nat.max_le.2 ⟨by decide, hle⟩⟩, edwell ▸ Nat.le_max_left _ _⟩

theorem decodeTile_legal {t : TileEntry} (h : decodeTile e = some t) : t.Legal := by
  obtain ⟨⟨halign, hmemory, hw, hh⟩, ebase, ew, eh, -⟩ := decodeTile_eq_some.1 h
  exact ⟨ebase ▸ halign, ebase ▸ hmemory, ew ▸ hw, eh ▸ hh⟩

end

/-- An entry that is taken is stored within its ranges (R43 to R51). -/
theorem SetupLegal.putEntry {s : State} (h : SetupLegal s) {table : TableId} {index : Nat} {e : List Byte} {u : Setup}
    (hput : putEntry table index e s.setup = some u) : SetupLegal (s.setSetup u) := by
  rcases putEntry_cases hput with ⟨c, hc, rfl⟩ | ⟨x, hx, rfl⟩ | ⟨x, hx, rfl⟩ | ⟨x, -, rfl⟩ | ⟨font, rfl⟩ |
    ⟨k, m, hm, rfl⟩ | ⟨k, rfl⟩ | ⟨x, -, rfl⟩ | ⟨x, hx, rfl⟩ | ⟨x, hx, rfl⟩
  · exact { h with canvas := decodeCanvas_legal hc }
  · exact { h with heads := Table.forall_read_write (Q := HeadEntry.Legal) h.heads (decodeHead_legal hx) index }
  · exact { h with slots := Table.forall_read_write (Q := SlotEntry.Legal) h.slots (decodeSlot_legal hx) index }
  · exact { h with }
  · exact { h with
      fonts := Table.forall_read_write (Q := fun x : Byte => within 8 96 x.toNat) h.fonts decodeFontHeight_legal font }
  · exact { h with metrics := Table.forall_read_write (Q := Metric.Legal) h.metrics (decodeMetric_legal hm) k }
  · exact { h with }
  · exact { h with }
  · exact { h with groups := Table.forall_read_write (Q := GroupEntry.Legal) h.groups (decodeGroup_legal hx) index }
  · exact { h with tiles := Table.forall_read_write (Q := TileEntry.Legal) h.tiles (decodeTile_legal hx) index }

/-- The cursor after a READ stands in its table or at its end (R41). -/
theorem SetupLegal.advanceCursor {s : State} (h : SetupLegal s) (n : Nat) :
    SetupLegal (s.setSetup { s.setup with cursor := advanceCursor s.setup.cursor n }) := by
  refine h.setCursor fun c hc => ?_
  obtain ⟨c, hcursor, rfl⟩ := Option.map_eq_some_iff.1 hc
  have hle := h.cursor c hcursor
  have hcount : readCount c n ≤ c.table.entries - c.index :=
    Nat.le_trans (Nat.min_le_right _ _) (Nat.min_le_right _ _)
  show c.index + readCount c n ≤ c.table.entries
  omega

/-! ## Canonical form, block by block -/

/-- The tables of the live price state are in their canonical form. -/
structure Live.Canonical (l : Live) : Prop where
  items : l.items.wf = true
  books : l.books.wf = true
  bindings : l.bindings.wf = true

theorem Canonical.live {s : State} (h : Canonical s) : s.live.Canonical := ⟨h.items, h.books, h.bindings⟩

theorem Live.Canonical.applyChange {l : Live} (h : l.Canonical) (c : Change) : (applyChange l c).Canonical := by
  cases c with
  | price book item entry => exact { h with books := Table.wf_write _ _ h.books }
  | item item record => exact { h with items := Table.wf_write _ _ h.items }
  | bind slot binding => exact { h with bindings := Table.wf_write _ _ h.bindings }

theorem Live.Canonical.applyBatch {l : Live} (h : l.Canonical) (b : Batch) : (applyBatch l b).Canonical :=
  List.foldlRecOn b.records Machine.applyChange h fun _ hl c _ => hl.applyChange c

theorem Live.Canonical.applyQueue {reading : Option Nat} {queue : List Batch} {l : Live} (h : l.Canonical) :
    (applyQueue reading queue l).2.Canonical := by
  induction queue generalizing l with
  | nil => exact h
  | cons b queue ih =>
    unfold Machine.applyQueue
    split
    · exact ih (h.applyBatch b)
    · exact h

theorem Live.Canonical.applyStatus {l : Live} (h : l.Canonical) (p : Fin 1024 × Status) :
    (applyStatus l p).Canonical := { h with items := Table.wf_write _ _ h.items }

theorem Live.Canonical.applied {l : Live} (h : l.Canonical) (g : Stager) (reading : Option Nat) :
    (g.applied reading l).2.Canonical := by
  unfold Stager.applied
  split
  · exact h
  · exact h.applyQueue

/-- A boundary changes the live price state entry by entry (R92 to R95). -/
theorem Live.Canonical.newLive {s : State} (h : s.live.Canonical) : (newLive s).Canonical := by
  have hstatus := List.foldlRecOn s.stager.immediate Machine.applyStatus
    (h.applied s.stager s.timeBase.reading) fun _ hl p _ => hl.applyStatus p
  exact ⟨hstatus.items, hstatus.books, hstatus.bindings⟩

theorem Canonical.takeSnapshot {s : State} (h : Canonical s) : (takeSnapshot s).Canonical :=
  ⟨h.items, h.books, h.bindings, Table.wf_ofFn _ _, h.slots, h.formats, h.fontHeights, h.metrics⟩

theorem Pictures.wf_setTile {p : Pictures} (t : Byte) (r : TileRecord) (h : p.directory.wf = true) :
    (p.setTile t r).directory.wf = true := Table.wf_write _ _ h

theorem Pictures.wf_abort {p : Pictures} (c : LoadChannel) (h : p.directory.wf = true) :
    (p.abort c).directory.wf = true := by
  rw [Pictures.abort, Pictures.setChannel_directory]
  exact Pictures.wf_setTile _ _ h

theorem Pictures.wf_stallOut {p : Pictures} (c : LoadChannel) (h : p.directory.wf = true) :
    (stallOut c p).directory.wf = true := by
  rcases stallOut_cases c p with ⟨-, -, e⟩ | ⟨-, e⟩ <;> rw [e]
  · exact Pictures.wf_abort c h
  · exact h

theorem Pictures.wf_reportFault {p : Pictures} (t : Byte) (h : p.directory.wf = true) :
    (p.reportFault t).directory.wf = true := by
  unfold Pictures.reportFault
  dsimp only
  split
  · exact Pictures.wf_setTile _ _ h
  · exact h

theorem Fetch.finishLine_latches (f : Fetch) : f.finishLine.tileLatch = f.tileLatch ∧ f.finishLine.slots = f.slots := by
  unfold Fetch.finishLine
  split <;> exact ⟨rfl, rfl⟩

theorem Fetch.takeBurst_latches (f : Fetch) (m : PictureMemory) (e : FetchEntry) (rest : List FetchEntry) :
    (f.takeBurst m e rest).tileLatch = f.tileLatch ∧ (f.takeBurst m e rest).slots = f.slots :=
  Fetch.finishLine_latches _

theorem Fetch.abandonEntry_latches (f : Fetch) (e : FetchEntry) (rest : List FetchEntry) :
    (f.abandonEntry e rest).tileLatch = f.tileLatch.write e.tile.toNat notReady ∧
      (f.abandonEntry e rest).slots = f.slots :=
  Fetch.finishLine_latches _

@[simp] theorem TimeBase.advance_runs (b : TimeBase) (n : Nat) : (b.advance n).runs = b.runs := by
  unfold TimeBase.advance
  split <;> rfl

/-! ## What the rows keep -/

/-- A change that keeps the setup tables in their ranges, and every table and picture memory in canonical form. -/
structure TablesGoOn (s t : State) : Prop where
  legal : SetupLegal s → SetupLegal t
  canonical : Canonical s → Canonical t

namespace TablesGoOn

theorem refl (s : State) : TablesGoOn s s := ⟨id, id⟩

theorem trans {s u t : State} (h : TablesGoOn s u) (h' : TablesGoOn u t) : TablesGoOn s t :=
  ⟨h'.legal ∘ h.legal, h'.canonical ∘ h.canonical⟩

section
variable (s : State)

theorem setNow (x : Nat) : TablesGoOn s (s.setNow x) := ⟨(·.of_setup_eq rfl), fun h => { h with }⟩
theorem setFresh (x : Nat) : TablesGoOn s (s.setFresh x) := ⟨(·.of_setup_eq rfl), fun h => { h with }⟩
theorem setReceiver (x : Receiver) : TablesGoOn s (s.setReceiver x) := ⟨(·.of_setup_eq rfl), fun h => { h with }⟩
theorem setTiming (x : Timing) : TablesGoOn s (s.setTiming x) := ⟨(·.of_setup_eq rfl), fun h => { h with }⟩
theorem setStager (x : Stager) : TablesGoOn s (s.setStager x) := ⟨(·.of_setup_eq rfl), fun h => { h with }⟩
theorem setArbiter (x : Arbiter) : TablesGoOn s (s.setArbiter x) := ⟨(·.of_setup_eq rfl), fun h => { h with }⟩
theorem setPort (x : Port) : TablesGoOn s (s.setPort x) := ⟨(·.of_setup_eq rfl), fun h => { h with }⟩
theorem setPending (x : List Instr) : TablesGoOn s (s.setPending x) := ⟨(·.of_setup_eq rfl), fun h => { h with }⟩

variable {s}

theorem setCursor {x : Option Cursor}
    (hx : SetupLegal s → SetupLegal (s.setSetup { s.setup with cursor := x })) :
    TablesGoOn s (s.setSetup { s.setup with cursor := x }) := ⟨hx, fun h => { h with }⟩

theorem setLive {x : Live} (hx : Canonical s → x.Canonical) : TablesGoOn s (s.setLive x) :=
  ⟨(·.of_setup_eq rfl), fun h => { h with items := (hx h).items, books := (hx h).books, bindings := (hx h).bindings }⟩

theorem setTimeBase {x : TimeBase} (hx : s.timeBase.runs.wf = true → x.runs.wf = true) :
    TablesGoOn s (s.setTimeBase x) := ⟨(·.of_setup_eq rfl), fun h => { h with runs := hx h.runs }⟩

theorem setPictures {x : Pictures} (hx : s.pictures.directory.wf = true → x.directory.wf = true) :
    TablesGoOn s (s.setPictures x) := ⟨(·.of_setup_eq rfl), fun h => { h with directory := hx h.directory }⟩

theorem setMemory {x : PictureMemory} (hx : s.memory.wf = true → x.wf = true) : TablesGoOn s (s.setMemory x) :=
  ⟨(·.of_setup_eq rfl), fun h => { h with memory := hx h.memory }⟩

theorem setFetch {x : Fetch} (hlatch : Canonical s → x.tileLatch.wf = true) (hslots : Canonical s → x.slots.wf = true) :
    TablesGoOn s (s.setFetch x) :=
  ⟨(·.of_setup_eq rfl), fun h => { h with tileLatch := hlatch h, fetchSlots := hslots h }⟩

/-- The Fetch Unit with both its latches kept. -/
theorem setFetch_latched {x : Fetch} (hlatch : x.tileLatch = s.fetch.tileLatch) (hslots : x.slots = s.fetch.slots) :
    TablesGoOn s (s.setFetch x) := setFetch (fun h => hlatch ▸ h.tileLatch) fun h => hslots ▸ h.fetchSlots

theorem setCompositor {x : Compositor} (hx : x.latch = s.compositor.latch) : TablesGoOn s (s.setCompositor x) :=
  ⟨(·.of_setup_eq rfl), fun h => { h with latch := fun l hl => h.latch l (hx ▸ hl) }⟩

end

theorem endDrain (c : LoadChannel) (s : State) : TablesGoOn s (endDrain c s) := by
  rcases endDrain_cases c s with ⟨-, -, e⟩ | ⟨-, e⟩ <;> rw [e]
  · refine setPictures fun h => ?_
    rw [Pictures.setChannel_directory]
    exact Pictures.wf_setTile _ _ h
  · exact refl s

theorem fetchLine (y : Nat) (s : State) : TablesGoOn s (fetchLine y s) := by
  obtain ⟨-, hlatch, hslots, -⟩ := fetchLine_fetch_kept y s
  rw [fetchLine_eq]
  exact setFetch_latched hlatch hslots

/-! ## The frame boundary (R28) -/

theorem timeBaseBoundary (s : State) : TablesGoOn s (timeBaseBoundary s) := setTimeBase fun _ => Table.wf_ofFn _ _

theorem stagerBoundary (s : State) : TablesGoOn s (stagerBoundary s) :=
  (setLive fun h => h.live.newLive).trans (setStager _ _)

theorem picturesBoundary (s : State) : TablesGoOn s (picturesBoundary s) :=
  setPictures fun h => Pictures.wf_stallOut .b (Pictures.wf_stallOut .a h)

theorem engineBoundary (s : State) : TablesGoOn s (engineBoundary s) :=
  ⟨(·.of_setup_eq rfl), fun h => { h with
    frame := Table.wf_ofFn _ _
    snapshot := fun _ hp => Option.some.inj hp ▸ h.takeSnapshot }⟩

theorem compositorBoundary (s : State) : TablesGoOn s (compositorBoundary s) :=
  ⟨(·.of_setup_eq rfl), fun h => { h with
    latch := fun _ hl => Option.some.inj hl ▸ ⟨h.heads, h.slots⟩ }⟩

theorem fetchBoundary (s : State) : TablesGoOn s (fetchBoundary s) :=
  (setFetch (fun _ => Table.wf_ofFn _ _) fun h => h.slots).trans (fetchLine 0 _)

/-- A frame boundary takes whole tables, or builds and changes them entry by entry (R28). -/
theorem frameBoundary (source : TimingSource) (s : State) : TablesGoOn s (frameBoundary source s) :=
  (setTiming _ _).trans <| (timeBaseBoundary _).trans <| (stagerBoundary _).trans <| (picturesBoundary _).trans <|
    (engineBoundary _).trans <| (compositorBoundary _).trans (fetchBoundary _)

/-! ## Packets -/

theorem writeEffect (table : TableId) (index : Nat) (s : State) : TablesGoOn s (writeEffect table index s) := by
  rcases writeEffect_cases table index s with ⟨-, e⟩ | ⟨-, e⟩ | ⟨-, -, e⟩ <;> rw [e]
  · exact setTimeBase (Table.wf_write _ _)
  · exact setPictures (Pictures.wf_setTile _ _)
  · exact refl s

/-- An entry that is taken is stored as its rule gives, in its table's canonical form (R43 to R51). -/
theorem putEntry {table : TableId} {index : Nat} {e : List Byte} {s : State} {u : Setup}
    (hput : putEntry table index e s.setup = some u) : TablesGoOn s (s.setSetup u) := by
  refine ⟨(·.putEntry hput), fun h => ?_⟩
  rcases putEntry_cases hput with ⟨c, -, rfl⟩ | ⟨x, -, rfl⟩ | ⟨x, -, rfl⟩ | ⟨x, -, rfl⟩ | ⟨font, rfl⟩ |
    ⟨k, m, -, rfl⟩ | ⟨k, rfl⟩ | ⟨x, -, rfl⟩ | ⟨x, -, rfl⟩ | ⟨x, -, rfl⟩
  · exact { h with }
  · exact { h with heads := Table.wf_write _ _ h.heads }
  · exact { h with slots := Table.wf_write _ _ h.slots }
  · exact { h with formats := Table.wf_write _ _ h.formats }
  · exact { h with fontHeights := Table.wf_write _ _ h.fontHeights }
  · exact { h with metrics := Table.wf_write _ _ h.metrics }
  · exact { h with glyphs := Table.wf_write _ _ h.glyphs }
  · exact { h with schedule := Table.wf_write _ _ h.schedule }
  · exact { h with groups := Table.wf_write _ _ h.groups }
  · exact { h with tiles := Table.wf_write _ _ h.tiles }

/-- A WRITE stores entry after entry and leaves the cursor behind the last, in the table or at its end (R40). -/
theorem write (payload : List Byte) (s : State) : TablesGoOn s (write payload s) := by
  rcases write_cases payload s with ⟨code, e⟩ | ⟨c, hcursor, -, -, hw⟩
  · rw [e]
    exact setReceiver _ _
  · have entries := writeEntries_keeps (table := c.table)
      (P := fun index u => TablesGoOn s u ∧ (SetupLegal s → index ≤ c.table.entries))
      (fun _ index u _ hu hlt hput =>
        ⟨hu.1.trans ((putEntry hput).trans (writeEffect c.table index _)), fun _ => hlt⟩)
      (chunks c.table.entryBytes (payload.length / c.table.entryBytes) payload) c.index s
      ⟨refl s, fun h => h.cursor c hcursor⟩
    obtain ⟨hgoes, hindex⟩ := entries
    have placed : TablesGoOn s (placeCursor c.table (writeEntries c.table
        (chunks c.table.entryBytes (payload.length / c.table.entryBytes) payload) c.index s)) :=
      ⟨fun h => (hgoes.legal h).setCursor fun _ hc => Option.some.inj hc ▸ hindex h,
        fun h => { hgoes.canonical h with }⟩
    rcases hw with e | ⟨code, e⟩ <;> rw [e]
    · exact placed
    · exact placed.trans (setReceiver _ _)

theorem cutLine (l : FrameLatch) (s : State) : TablesGoOn s (cutLine l s) := by
  obtain ⟨_, hcompositor, -⟩ := cutLine_compositor l s
  rw [cutLine_eq]
  exact (setCompositor (by rw [hcompositor])).trans (setFresh _ _)

/-- A soft reset empties no table but puts LOADING tiles back (R16, R156). -/
theorem softResetBlocks (s : State) : TablesGoOn s (softResetBlocks s) := by
  have reset : TablesGoOn s (resetBlocks s) :=
    ⟨fun h => (h.setCursor (cursor := none) fun _ hc => by cases hc).of_setup_eq rfl,
      fun h => { h with directory := Table.wf_clearWhere _ h.directory }⟩
  refine reset.trans ?_
  show TablesGoOn (resetBlocks s) (refetch (resetBlocks s))
  unfold refetch
  split
  · exact refl _
  · split
    · exact refl _
    · exact (cutLine _ _).trans (fetchLine _ _)

theorem ownerActs (kind : PacketKind) (broadcast : Bool) (payload : List Byte) (s : State) :
    TablesGoOn s (ownerActs kind broadcast payload s) := by
  have staged (g : Stager) : TablesGoOn s (s.setStager g) := setStager s g
  refine ownerActs_keeps broadcast payload (refl s) (fun u code kind h => h.trans (setReceiver _ _)) ?select
    (.write payload s) ?query ?stage ?sealing (staged _) (staged _) (fun _ => staged _) ?status ?time ?restart ?opening
    ?data ?ending ?abort ?node ⟨(·.of_setup_eq rfl), fun h => { h with }⟩ (softResetBlocks s) kind
  case select =>
    intro t h
    obtain ⟨c, hlt, rfl⟩ := select_ok h
    exact setCursor (·.setCursor fun _ hc => Option.some.inj hc ▸ Nat.le_of_lt hlt)
  case query =>
    intro t h
    obtain ⟨-, rfl | ⟨n, rfl⟩⟩ := query_ok h
    · exact setPort _ _
    · exact (setCursor (·.advanceCursor n)).trans (setPort _ _)
  case stage => intro t h; obtain ⟨_, -, rfl⟩ := stage_ok h; exact staged _
  case sealing => intro t h; obtain ⟨_, -, -, rfl⟩ := sealBatch_ok h; exact staged _
  case status => intro t h; obtain ⟨_, -, rfl⟩ := statusNow_ok h; exact staged _
  case time =>
    intro t h
    obtain ⟨-, rfl⟩ | ⟨-, _, _, -, -, rfl⟩ := setTime_ok h
    · exact refl _
    · exact setTimeBase id
  case restart => intro t h; obtain ⟨_, rfl⟩ := groupRestart_ok h; exact setTimeBase fun _ => Table.wf_ofFn _ _
  case opening =>
    intro t h
    obtain ⟨_, _, _, -, -, -, -, rfl⟩ := loadOpen_ok h
    exact setPictures fun h => by rw [Pictures.setChannel_directory]; exact Pictures.wf_setTile _ _ h
  case data =>
    intro t h
    obtain ⟨_, -, -, rfl⟩ := loadData_ok h
    exact (setPictures fun h => (Pictures.setChannel_directory _ _ _).symm ▸ h).trans (.endDrain _ _)
  case ending =>
    intro t h
    obtain ⟨_, -, rfl⟩ := loadEnd_ok h
    exact (setPictures fun h => (Pictures.setChannel_directory _ _ _).symm ▸ h).trans (.endDrain _ _)
  case abort =>
    intro t h
    obtain rfl | ⟨_, -, rfl⟩ := loadAbort_ok h
    · exact refl _
    · exact setPictures (Pictures.wf_abort _)
  case node => intro t h; obtain ⟨_, -, rfl⟩ := setNode_ok h; exact setPort _ _

/-! ## Every row -/

theorem grant {check : ReadCheck} {s t : State} (h : exec (.grant check) s = .next t) : TablesGoOn s t := by
  rcases execGrant_cases check s with ⟨-, e⟩ | ⟨-, e⟩ | ⟨c, -, e⟩ <;> rw [e] at h
  · cases h; exact refl s
  · refine (setArbiter s (windowAfter s false)).trans ?_
    rcases readBurst_cases check (s.setArbiter (windowAfter s false)) with
      ⟨-, e⟩ | ⟨entry, rest, -, ⟨-, e⟩ | ⟨-, ⟨-, e⟩ | ⟨-, e⟩ | ⟨-, e⟩⟩⟩ <;> rw [e] at h <;> cases h
    · exact setFetch_latched (Fetch.finishLine_latches _).1 (Fetch.finishLine_latches _).2
    · exact setFetch_latched (Fetch.takeBurst_latches _ _ _ _).1 (Fetch.takeBurst_latches _ _ _ _).2
    · refine (setMemory fun hm => ?_).trans
        (setFetch_latched (Fetch.takeBurst_latches _ _ _ _).1 (Fetch.takeBurst_latches _ _ _ _).2)
      simp only [PictureMemory.wf, Bool.and_eq_true] at hm ⊢
      exact ⟨hm.1, Table.wf_write _ _ hm.2⟩
    · obtain ⟨hlatch, hslots⟩ := Fetch.abandonEntry_latches s.fetch entry rest
      exact (setFetch (fun h => hlatch ▸ Table.wf_write _ _ h.tileLatch) fun h => hslots ▸ h.fetchSlots).trans
        (setPictures (Pictures.wf_reportFault _))
  · refine (setArbiter s (windowAfter s true)).trans ?_
    rcases writeBurst_cases c (s.setArbiter (windowAfter s true)) with ⟨-, e⟩ | ⟨_, _, -, ⟨-, e⟩ | ⟨-, e⟩⟩ <;>
      rw [e] at h <;> cases h
    · exact refl _
    · exact (setMemory (PictureMemory.wf_writeBurst _ _)).trans <|
        (setPictures fun h => (Pictures.setChannel_directory _ _ _).symm ▸ h).trans (endDrain c _)

theorem composeLine (input : List Rgb) (s : State) : TablesGoOn s (composeLine input s) := by
  unfold Machine.composeLine
  split
  · exact refl s
  · exact setCompositor rfl

theorem lineOutputStart {input : List Rgb} {s t : State} (h : exec (.lineOutputStart input) s = .next t) :
    TablesGoOn s t := by
  replace h : execLineOutputStart input s = .next t := h
  rcases execLineOutputStart_cases input s with ⟨-, e⟩ | ⟨-, e⟩ | e <;> rw [e] at h <;> cases h
  · have started : TablesGoOn s (startStore s) := setFetch_latched rfl rfl
    exact started.trans <| (composeLine input _).trans (fetchLine _ _)
  · exact setCompositor rfl
  · exact refl s

theorem blankFrame (s : State) : TablesGoOn s (blankFrame s) := by
  unfold Machine.blankFrame
  split
  · refine (setCompositor ?_).trans (setFetch_latched rfl rfl)
    rfl
  · exact refl s

theorem completeEngine (s : State) : TablesGoOn s (s.setEngine s.engine.complete) := by
  unfold Engine.complete
  split
  · exact refl s
  · exact ⟨(·.of_setup_eq rfl), fun h => { h with frame := Table.wf_ofFn _ _, published := Table.wf_ofFn _ _ }⟩

theorem powerOn (straps : Fin 8) (s : State) : TablesGoOn s (powerOn straps s) :=
  ⟨fun _ => reset_setupLegal.of_setup_eq rfl, fun _ => { reset_canonical with memory := rfl }⟩

theorem boardReset (straps : Fin 8) (s : State) : TablesGoOn s (boardReset straps s) :=
  ⟨fun h => { reset_setupLegal with tiles := h.tiles },
    fun h => { reset_canonical with
      memory := h.memory, tiles := h.tiles, directory := Table.wf_clearWhere _ h.directory }⟩

theorem carrierLine {pixels : List Rgb} {s t : State} (h : exec (.carrierLine pixels) s = .next t) : TablesGoOn s t :=
  carrierLine_keeps (P := TablesGoOn s) (fun _ _ hu => hu.trans (setReceiver _ _))
    (fun _ hu => hu.trans (setTiming _ _))
    (fun kind broadcast payload _ hu => hu.trans (ownerActs kind broadcast payload _)) (refl s) h

/-- Every row keeps the setup tables in their ranges, and picture memory and every table in canonical form. -/
theorem exec {c : Instr} {s t : State} (h : exec c s = .next t) : TablesGoOn s t := by
  cases hp : packet c with
  | some q =>
    obtain ⟨kind, broadcast, payload⟩ := q
    rw [exec_of_packet hp] at h
    cases h
    exact ownerActs kind broadcast payload s
  | none =>
    cases c with
    | powerOn straps => cases h; exact powerOn straps s
    | boardReset straps => cases h; exact boardReset straps s
    | resetComplete =>
      rcases exec_resetComplete_cases s with e | ⟨-, e⟩ <;> rw [e] at h <;> cases h
      · exact refl s
      · exact (setTiming _ _).trans (frameBoundary _ _)
    | carrierLine pixels => exact carrierLine h
    | firstActiveLine width =>
      cases h
      split
      · exact (setReceiver _ _).trans <| (setTiming _ _).trans (blankFrame _)
      · exact refl s
    | badKind kind => cases h; exact setReceiver _ _
    | inputFrameStart a b =>
      rcases exec_inputFrameStart_cases a b s with e | ⟨_, e⟩ | ⟨source, timing, e⟩ <;> rw [e] at h <;> cases h
      · exact refl s
      · exact (setReceiver _ _).trans (setTiming _ _)
      · exact (setReceiver _ _).trans <| (setTiming _ _).trans (frameBoundary _ _)
    | inputTimeout =>
      have lost : TablesGoOn s (inputLost s) := (setReceiver _ _).trans (setTiming _ _)
      rcases exec_inputTimeout_cases s with e | ⟨-, ⟨-, e⟩ | ⟨-, e⟩⟩ <;> rw [e] at h <;> cases h
      · exact refl s
      · exact lost
      · exact lost.trans (frameBoundary _ _)
    | generatorFrameEnd =>
      rcases exec_generatorFrameEnd_cases s with e | ⟨-, _, -, e⟩ <;> rw [e] at h <;> cases h
      · exact refl s
      · exact frameBoundary _ _
    | groupStep g =>
      cases h
      split
      · exact setTimeBase fun _ => Table.wf_ofFn _ _
      · exact refl s
    | stallAbort channel => cases h; exact setPictures (Pictures.wf_stallOut channel)
    | completionEvent =>
      cases h
      split
      · exact completeEngine s
      · exact refl s
    | lineOutputStart input => exact lineOutputStart h
    | lineFetchComplete =>
      cases h
      exact setFetch_latched (Fetch.finishLine_latches _).1 (Fetch.finishLine_latches _).2
    | grant check => exact grant h
    | windowClose => cases h; exact setArbiter _ _
    | drainEnd channel => cases h; exact endDrain channel s
    | replyStart readings =>
      replace h : execReplyStart readings s = .next t := h
      rcases execReplyStart_cases readings s with e | ⟨_, _, _, _, _, -, -, ⟨-, -, e⟩ | e⟩ <;> rw [e] at h <;> cases h
      · exact refl s
      · exact setPort _ _
      · exact setPort _ _
    | replyTimeout => cases h; split <;> [(split <;> [exact setPort _ _; exact refl s]); exact refl s]
    | collision => cases h; split <;> [(split <;> [exact setPort _ _; exact refl s]); exact refl s]
    | replyEnd => cases h; split <;> [(split <;> [exact setPort _ _; exact refl s]); exact refl s]
    | clockAdvance micros =>
      cases h
      refine (setNow _ _).trans (setTimeBase fun hr => ?_)
      split
      · exact hr
      · rw [TimeBase.advance_runs]
        exact hr
    | _ => simp [packet] at hp

end TablesGoOn

/-- Settles O11: the cursor and the entries that a row stores are legal, and no row changes others. -/
theorem setupStaysLegal : Obligations.SetupStaysLegal :=
  step_keeps (fun s rest h => (TablesGoOn.setPending s rest).legal h) fun _ _ _ h he => (TablesGoOn.exec he).legal h

/-- Settles O12: every row builds its tables whole or changes them entry by entry, and both keep the canonical form. -/
theorem canonicalFormKept : Obligations.CanonicalFormKept :=
  step_keeps (fun s rest h => (TablesGoOn.setPending s rest).canonical h)
    fun _ _ _ h he => (TablesGoOn.exec he).canonical h

end Sys2Proof.Machine
end

section
/-! PROOFS. The entries of the setup tables: which are refused, what is stored of the others, and that an entry read is
taken back as it was (R42 to R51, R54, R55). -/

namespace Sys2Proof.Machine

/-! ## Entries refused and entries stored -/

theorem badFieldsAreRefused : Claims.BadFieldsAreRefused := fun _ =>
  ⟨decodeCanvas_eq_none, decodeHead_eq_none, decodeSlot_eq_none, decodeFormat_eq_none, decodeMetric_eq_none,
    decodeSchedule_eq_none, decodeGroup_eq_none, decodeTile_eq_none⟩

theorem leader_none_iff {l : Option (Fin 16)} : l = none ↔ (l.map Fin.val).getD 255 = 255 := by
  cases l with
  | none => simp
  | some g =>
    have := g.isLt
    simp
    omega

theorem KeyMode.alpha_iff {m : KeyMode} : m = .alpha ↔ m.number = 1 := by cases m <;> decide

theorem clamp_zero (high n : Nat) : clamp 0 high n = min high n := Nat.zero_max _

theorem entriesAsStored : Claims.EntriesAsStored := by
  intro e colour
  refine ⟨fun c hc => ?canvas, fun x hx => decodeHead_eq_some.1 hx, fun x hx => ?slot,
    fun f hf => decodeFormat_eq_some.1 hf, decodeFontHeight_toNat e, fun m hm => decodeMetric_eq_some.1 hm,
    fun x hx => decodeSchedule_eq_some.1 hx, fun g hg => ?group, fun t ht => ?tile⟩
  case canvas =>
    obtain ⟨-, -, hwidth, hheight, hplate, hshare, hperiod⟩ := decodeCanvas_eq_some.1 hc
    obtain ⟨hlisted, hbelow, hlargest⟩ := clampShare_largest (byteAt e 7)
    rw [← hshare] at hlisted hbelow hlargest
    exact ⟨hwidth, hheight, hplate, hlisted, hbelow, hlargest, hperiod⟩
  case slot =>
    have stored := decodeSlot_eq_some.1 hx
    rw [clamp_zero, clamp_zero] at stored
    exact stored
  case group =>
    obtain ⟨hmembers, -, hcount, hmode, hskip, hleader, hdwell⟩ := decodeGroup_eq_some.1 hg
    refine ⟨hmembers, hcount, hmode, hskip, ?_, fun h hh => ?_, hdwell⟩
    · rw [leader_none_iff, hleader]
    · rw [← hleader, hh]
      rfl
  case tile =>
    obtain ⟨-, hbase, hwidth, hheight, hmode⟩ := decodeTile_eq_some.1 ht
    exact ⟨hbase, hwidth, hheight, by rw [KeyMode.alpha_iff, hmode]⟩

/-! ## Entries read and taken back -/

/-- A number in so many bytes, where it fits them. -/
theorem leNat_leBytes_of_lt {n v : Nat} (h : v < 256 ^ n) : leNat (leBytes n v) = v := by
  rw [leNat_leBytes, Nat.mod_eq_of_lt h]

theorem toNat_ofNat_byte {n : Nat} (h : n < 256) : (BitVec.ofNat 8 n).toNat = n := Nat.mod_eq_of_lt h

theorem bit_toByte (b : Bool) : (BitVec.ofNat 8 (bit b)).toNat = bit b := by cases b <;> rfl

/-- A bit of a byte, by its number. -/
theorem getLsbD_ofNat_byte (n : Nat) {i : Nat} (h : i < 8) :
    (BitVec.ofNat 8 n).getLsbD i = decide (n / 2 ^ i % 2 = 1) := by
  rw [BitVec.getLsbD_ofNat, decide_eq_true h, Bool.true_and, Nat.testBit_eq_decide_div_mod_eq]

theorem decode_encodeCanvas {c : CanvasEntry} (h : c.Legal) : decodeCanvas (encodeCanvas c) = some c := by
  obtain ⟨hw, hh, hshare, hp⟩ := h
  have width : field (encodeCanvas c) 0 2 = c.width.toNat := leNat_word16Bytes _
  have height : field (encodeCanvas c) 2 2 = c.height.toNat := leNat_word16Bytes _
  have period : field (encodeCanvas c) 8 2 = c.nominalPeriod.toNat := leNat_word16Bytes _
  refine decodeCanvas_eq_some.2 ⟨by rwa [width], by rwa [height], width.symm, height.symm, rfl,
    (clampShare_of_legal hshare).symm, ?_⟩
  rw [period, clamp_of_within hp]

theorem decode_encodeHead {x : HeadEntry} (h : x.Legal) : decodeHead (encodeHead x) = some x := by
  obtain ⟨hw, hh⟩ := h
  have width : field (encodeHead x) 6 2 = x.w.toNat := leNat_word16Bytes _
  have height : field (encodeHead x) 8 2 = x.h.toNat := leNat_word16Bytes _
  refine decodeHead_eq_some.2 ⟨(bit_toByte x.enabled).symm, (leNat_word16Bytes _).symm, (leNat_word16Bytes _).symm,
    ?_, ?_, rfl⟩
  · rw [width, clamp_of_within hw]
  · rw [height, clamp_of_within hh]

theorem Alignment.number_lt (a : Alignment) : a.number < 3 := by cases a <;> decide

theorem Treatment.number_lt (t : Treatment) : t.number < 4 := by cases t <;> decide

/-- The fields of a SLOTS entry: their widths and what they hold (R55). -/
def slotFields (x : SlotEntry) : List (Nat × Nat) :=
  [(2, x.x.toNat), (2, x.y.toNat), (2, x.w.toNat), (2, x.h.toNat), (2, x.tx.toNat), (2, x.ty.toNat), (2, x.px.toNat),
   (2, x.py.toNat), (2, x.pw.toNat), (2, x.ph.toNat), (1, x.font.val + 16 * x.format.val), (1, x.alignment.number),
   (1, x.treatment.number), (1, x.dayparts.toNat), (1, x.priceColour.red.toNat), (1, x.priceColour.green.toNat),
   (1, x.priceColour.blue.toNat), (1, x.fillColour.red.toNat), (1, x.fillColour.green.toNat),
   (1, x.fillColour.blue.toNat), (1, x.fillAlpha.toNat), (1, x.d.toNat)]

theorem encodeSlot_eq (x : SlotEntry) : encodeSlot x = layoutBytes (slotFields x) := by
  simp only [encodeSlot, word16Bytes, rgbBytes, slotFields, layoutBytes_cons, leBytes, BitVec.ofNat_toNat,
    BitVec.setWidth_eq, List.cons_append, List.nil_append]
  rfl

theorem slotFields_fit (x : SlotEntry) : ∀ q ∈ slotFields x, q.2 < 256 ^ q.1 := by
  have hfont := x.font.isLt
  have hformat := x.format.isLt
  have halignment := x.alignment.number_lt
  have htreatment := x.treatment.number_lt
  simp only [slotFields, List.forall_mem_cons]
  refine ⟨x.x.isLt, x.y.isLt, x.w.isLt, x.h.isLt, x.tx.isLt, x.ty.isLt, x.px.isLt, x.py.isLt, x.pw.isLt, x.ph.isLt,
    by omega, by omega, by omega, x.dayparts.isLt, x.priceColour.red.isLt, x.priceColour.green.isLt,
    x.priceColour.blue.isLt, x.fillColour.red.isLt, x.fillColour.green.isLt, x.fillColour.blue.isLt, x.fillAlpha.isLt,
    x.d.isLt, by simp⟩

theorem decode_encodeSlot {x : SlotEntry} (h : x.Legal) : decodeSlot (encodeSlot x) = some x := by
  obtain ⟨hpw, hph⟩ := h
  have hfields : Holds (encodeSlot x) 0 (slotFields x) := by
    have held := holds_layoutBytes [] (slotFields_fit x) []
    rwa [List.append_nil, List.nil_append, ← encodeSlot_eq] at held
  generalize encodeSlot x = e at hfields
  simp only [slotFields, Holds, Nat.reduceAdd, field_one] at hfields
  obtain ⟨hx, hy, hw, hh, htx, hty, hpx, hpy, hboxWidth, hboxHeight, hfonts, halignment, htreatment, hdayparts, hred,
    hgreen, hblue, hred', hgreen', hblue', halpha, hd, -⟩ := hfields
  have byte {b c : Byte} (h : b.toNat = c.toNat) : c = b := (BitVec.eq_of_toNat_eq h).symm
  have colour {c : Rgb} {k : Nat} (hr : (byteAt e k).toNat = c.red.toNat)
      (hg : (byteAt e (k + 1)).toNat = c.green.toNat) (hb : (byteAt e (k + 2)).toNat = c.blue.toNat) : c = rgbAt e k := by
    rw [rgbAt, ← byte hr, ← byte hg, ← byte hb]
  refine decodeSlot_eq_some.2 ⟨hx.symm, hy.symm, hw.symm, hh.symm, htx.symm, hty.symm, hpx.symm, hpy.symm, ?_, ?_,
    by omega, by omega, halignment.symm, htreatment.symm, byte hdayparts, colour hred hgreen hblue,
    colour hred' hgreen' hblue', byte halpha, byte hd⟩
  · rw [hboxWidth, clamp_of_within ⟨Nat.zero_le _, hpw⟩]
  · rw [hboxHeight, clamp_of_within ⟨Nat.zero_le _, hph⟩]

theorem decode_encodeFormat (f : FormatEntry) : decodeFormat (encodeFormat f) = some f := by
  have hdecimals : f.decimals.number < 256 := by cases f.decimals <;> decide
  have hcurrency : f.currency.number < 256 := by cases f.currency <;> decide
  have htax : f.taxMode.number < 256 := by cases f.taxMode <;> decide
  have hrounding : f.rounding.number < 256 := by cases f.rounding <;> decide
  have hgranularity : f.granularity.units < 256 := by cases f.granularity <;> decide
  have hrate : f.rate.val < 256 ^ 2 := Nat.lt_trans f.rate.isLt (by decide)
  have flags : ∀ a b c : Bool, ∀ i < 3, (BitVec.ofNat 8 (bit a + 2 * bit b + 4 * bit c)).getLsbD i =
      [a, b, c].getD i false := by decide
  exact decodeFormat_eq_some.2 ⟨(toNat_ofNat_byte hdecimals).symm, (toNat_ofNat_byte hcurrency).symm,
    (toNat_ofNat_byte htax).symm, (leNat_leBytes_of_lt hrate).symm, (toNat_ofNat_byte hrounding).symm,
    (toNat_ofNat_byte hgranularity).symm, (flags _ _ _ 0 (by decide)).symm, (flags _ _ _ 1 (by decide)).symm,
    (flags _ _ _ 2 (by decide)).symm⟩

theorem decode_encodeFontHeight {h : Byte} (hh : within 8 96 h.toNat) : decodeFontHeight (encodeFontHeight h) = h :=
  ofNat_clamp_toNat hh

theorem decode_encodeMetric {m : Metric} (h : m.Legal) : decodeMetric (encodeMetric m) = some m :=
  decodeMetric_eq_some.2 ⟨(bit_toByte m.present).symm, (clamp_of_within h.1).symm, (clamp_of_within h.2).symm⟩

theorem decode_encodeSchedule (x : ScheduleEntry) : decodeSchedule (encodeSchedule x) = some x :=
  decodeSchedule_eq_some.2 ⟨(bit_toByte x.enabled).symm,
    (toNat_ofNat_byte (Nat.lt_trans x.book.isLt (by decide))).symm,
    (leNat_leBytes_of_lt (n := 2) (Nat.lt_trans x.start.isLt (by decide))).symm⟩

/-- The members of a group's entry as a READ returns them (R55). -/
theorem encodeGroup_member (g : GroupEntry) {k : Nat} (hk : k < 8) :
    field (encodeGroup g) (2 * k) 2 = (g.member k).val := by
  have fits : (g.member k).val < 256 ^ 2 := Nat.lt_trans (g.member k).isLt (by decide)
  refine Eq.trans ?_ (leNat_leBytes_of_lt fits)
  match k, hk with
  | 0, _ | 1, _ | 2, _ | 3, _ | 4, _ | 5, _ | 6, _ | 7, _ => rfl

/-- The byte of a group's entry that holds its member count, mode and skip flag (R55). -/
theorem encodeGroup_flags (g : GroupEntry) : byteAt (encodeGroup g) 16 =
    BitVec.ofNat 8 (g.count % 16 + 16 * g.mode.number + 32 * bit g.skipUnavailable) := rfl

theorem GroupMode.number_le (m : GroupMode) : m.number ≤ 1 := by cases m <;> decide

theorem GroupMode.oneShot_iff_number {m : GroupMode} : m = .oneShot ↔ m.number = 1 := by cases m <;> decide

theorem bit_eq_one_iff (b : Bool) : decide (bit b = 1) = b := by cases b <;> rfl

theorem decode_encodeGroup {g : GroupEntry} (h : g.Legal) : decodeGroup (encodeGroup g) = some g := by
  obtain ⟨⟨hpos, hmany⟩, hdwell⟩ := h
  have hmode := g.mode.number_le
  have hskip := bit_le g.skipUnavailable
  have dwell : field (encodeGroup g) 18 2 = g.dwell.toNat := leNat_word16Bytes _
  have count : (byteAt (encodeGroup g) 16).toNat % 16 = g.count := by
    rw [encodeGroup_flags, toNat_ofNat_byte (by omega)]
    omega
  refine decodeGroup_eq_some.2 ⟨fun k hk => (encodeGroup_member g hk).symm, by omega, by omega, ?_, ?_,
    (leaderByte_toNat g.leader).symm, by omega⟩
  · rw [encodeGroup_flags, getLsbD_ofNat_byte _ (by decide), decide_eq_true_iff, GroupMode.oneShot_iff_number]
    omega
  · rw [encodeGroup_flags, getLsbD_ofNat_byte _ (by decide), ← bit_eq_one_iff g.skipUnavailable, decide_eq_decide]
    rw [bit_eq_one_iff]
    omega

theorem decode_encodeTile {t : TileEntry} (h : t.Legal) : decodeTile (encodeTile t) = some t := by
  obtain ⟨halign, hmemory, hw, hh⟩ := h
  have base : field (encodeTile t) 0 4 = t.base.toNat := leNat_leBytes_of_lt (n := 4) t.base.isLt
  have width : field (encodeTile t) 4 2 = t.width.toNat := leNat_word16Bytes _
  have height : field (encodeTile t) 6 2 = t.height.toNat := leNat_word16Bytes _
  refine decodeTile_eq_some.2 ⟨?_, base.symm, width.symm, height.symm, ?_⟩
  · rw [base, width, height]
    exact ⟨halign, hmemory, hw, hh⟩
  · cases hm : t.keyMode <;> simp [encodeTile, hm] <;> rfl

/-! ### Every entry has its table's size (R36) -/

@[simp] theorem rgbBytes_length (c : Rgb) : (rgbBytes c).length = 3 := rfl

@[simp] theorem encodeCanvas_length (c : CanvasEntry) : (encodeCanvas c).length = 16 := by simp [encodeCanvas]
@[simp] theorem encodeHead_length (x : HeadEntry) : (encodeHead x).length = 16 := by simp [encodeHead]
@[simp] theorem encodeSlot_length (x : SlotEntry) : (encodeSlot x).length = 32 := by simp [encodeSlot]
@[simp] theorem encodeFormat_length (f : FormatEntry) : (encodeFormat f).length = 8 := by simp [encodeFormat]
@[simp] theorem encodeFontHeight_length (h : Byte) : (encodeFontHeight h).length = 4 := rfl
@[simp] theorem encodeMetric_length (m : Metric) : (encodeMetric m).length = 4 := by simp [encodeMetric]
@[simp] theorem encodeSchedule_length (x : ScheduleEntry) : (encodeSchedule x).length = 4 := by simp [encodeSchedule]
@[simp] theorem encodeGroup_length (g : GroupEntry) : (encodeGroup g).length = 20 := by simp [encodeGroup]
@[simp] theorem encodeTile_length (t : TileEntry) : (encodeTile t).length = 12 := by simp [encodeTile]

theorem entriesRoundTrip : Claims.EntriesRoundTrip :=
  ⟨fun c hw hh hshare hp => ⟨decode_encodeCanvas ⟨hw, hh, hshare, hp⟩, encodeCanvas_length c⟩,
    fun x hw hh => ⟨decode_encodeHead ⟨hw, hh⟩, encodeHead_length x⟩,
    fun x hpw hph => ⟨decode_encodeSlot ⟨hpw, hph⟩, encodeSlot_length x⟩,
    fun f => ⟨decode_encodeFormat f, encodeFormat_length f⟩,
    fun h hh => ⟨decode_encodeFontHeight hh, encodeFontHeight_length h⟩,
    fun m hw ha => ⟨decode_encodeMetric ⟨hw, ha⟩, encodeMetric_length m⟩,
    fun x => ⟨decode_encodeSchedule x, encodeSchedule_length x⟩,
    fun g hcount hdwell => ⟨decode_encodeGroup ⟨hcount, hdwell⟩, encodeGroup_length g⟩,
    fun t halign hmemory hw hh => ⟨decode_encodeTile ⟨halign, hmemory, hw, hh⟩, encodeTile_length t⟩⟩

/-- Settles O26: each table's check, read once as the fields it takes and once as those it leaves out. -/
theorem tableEntries : Obligations.TableEntries := ⟨badFieldsAreRefused, entriesAsStored, entriesRoundTrip⟩

end Sys2Proof.Machine
end

section
/-! PROOFS. SELECT and WRITE: the tables by id, what is in use, when a WRITE is refused whole, and how it goes entry by
entry (R36 to R40). -/

namespace Sys2Proof.Machine

/-! ## SELECT (R36, R37) -/

theorem TableId.ofNumber_eq_none (n : Nat) : TableId.ofNumber n = none ↔ (12 ≤ n ∧ n ≤ 15) ∨ 24 ≤ n := by
  by_cases h : n < 24
  · have below : ∀ m < 24, TableId.ofNumber m = none ↔ 12 ≤ m ∧ m ≤ 15 := by decide
    rw [below n h]
    omega
  · obtain ⟨k, rfl⟩ := Nat.exists_eq_add_of_le' (Nat.le_of_not_lt h)
    exact iff_of_true rfl (by omega)

theorem tablesById : Claims.TablesById := ⟨rfl, rfl, by decide, TableId.ofNumber_eq_none⟩

theorem exec_select (payload : List Byte) (s : State) :
    exec (.select payload) s = .next (settle .select s (select payload s)) := rfl

theorem selectOutcome : Claims.SelectOutcome := by
  intro payload s
  simp only [exec_select, select]
  refine ⟨fun hlen => ?_, fun hlen hid => ?_, fun table hlen hid => ⟨fun hpast => ?_, fun hin => ?_⟩⟩
  · rw [if_pos hlen, settle_error]
  · rw [if_neg (by simp [hlen]), hid, settle_error]
  · simp only [hlen, hid, ne_eq, not_true_eq_false, if_false, if_neg (Nat.not_lt.2 hpast), settle_error]
  · simp only [hlen, hid, ne_eq, not_true_eq_false, if_false, if_pos hin, settle_ok]
    rfl

/-- Settles O23: the ids by their values, SELECT by its checks. -/
theorem tableSelection : Obligations.TableSelection := ⟨tablesById, selectOutcome⟩

/-! ## In use (R38, R39) -/

theorem tileShown_iff {s : State} {t : Byte} : tileShown s t = true ↔
    ∃ slot < 96, (s.engine.frame.read slot).visible = true ∧ (s.engine.frame.read slot).tile = some t := by
  simp [tileShown, slotNumbers]

theorem fontInUse_iff {s : State} {f : Nat} : fontInUse s f = true ↔ ∃ l, s.compositor.latch = some l ∧
    ∃ slot < 96, (s.engine.frame.read slot).visible = true ∧ (l.slots.read slot).font.val = f := by
  unfold fontInUse
  cases s.compositor.latch <;> simp [slotNumbers]

theorem tileInUse_iff {s : State} {t : Byte} : tileInUse s t = true ↔
    tileShown s t = true ∨ (s.pictures.directory.read t.toNat).state = .loading := by
  simp [tileInUse]

theorem inUseRule : Claims.InUseRule := by
  refine ⟨fun _ _ => tileShown_iff, fun _ _ => fontInUse_iff, fun _ _ => tileInUse_iff, fun s index =>
    ⟨rfl, fun _ => rfl, fun t => ?_, fun table hmetrics hglyphs htiles => ?_⟩⟩
  · rw [entryInUse, BitVec.ofNat_toNat, BitVec.setWidth_eq]
  · cases table with
    | fontMetrics => exact absurd rfl hmetrics
    | glyphs f => exact absurd rfl (hglyphs f)
    | tiles => exact absurd rfl htiles
    | _ => rfl

theorem writeInUse_iff {s : State} {table : TableId} {index count : Nat} :
    writeInUse s table index count = true ↔
      ∃ k < count, index + k < table.entries ∧ entryInUse s table (index + k) = true := by
  simp [writeInUse]

theorem writeInUse_eq_false {s : State} {table : TableId} {index count : Nat} :
    writeInUse s table index count = false ↔
      ∀ k < count, index + k < table.entries → entryInUse s table (index + k) = false := by
  rw [← Bool.not_eq_true, writeInUse_iff]
  simp

/-! ## A WRITE as a whole (R39, R40) -/

/-- How a WRITE ends once its entries are carried out: the cursor is placed, and what ended the entries, or a trailing
part, is refused (R40). -/
def finishWrite (table : TableId) (trailing : Nat) (r : State × Nat × Option RefusalCode) : State :=
  match writeRefusal trailing r.2.2 with
  | none => placeCursor table r
  | some code => refuse code .write (placeCursor table r)

section
variable {payload : List Byte} {s : State} {table : TableId} {index : Nat}

theorem write_noCursor (h : s.setup.cursor = none) : write payload s = refuse .notOpen .write s := by
  simp only [write, h]

theorem write_readOnly (h : s.setup.cursor = some ⟨table, index⟩) (hro : table.readOnly = true) :
    write payload s = refuse .stagedOnly .write s := by
  simp only [write, h, hro, if_true]

theorem write_inUse (h : s.setup.cursor = some ⟨table, index⟩) (hro : table.readOnly = false)
    (huse : writeInUse s table index (payload.length / table.entryBytes) = true) :
    write payload s = refuse .inUse .write s := by
  simp only [write, h, hro, huse, Bool.false_eq_true, if_false, if_true]

/-- A WRITE that passes the tests of R39 carries its entries out, from the cursor on (R40). -/
theorem write_passed (h : s.setup.cursor = some ⟨table, index⟩) (hro : table.readOnly = false)
    (huse : writeInUse s table index (payload.length / table.entryBytes) = false) :
    write payload s = finishWrite table (payload.length % table.entryBytes) (writeEntries table
      (chunks table.entryBytes (payload.length / table.entryBytes) payload) index s) := by
  simp only [write, h, hro, huse, Bool.false_eq_true, if_false]
  rfl

/-- The cursor placed where it stands. -/
theorem placeCursor_same (h : s.setup.cursor = some ⟨table, index⟩) (ended : Option RefusalCode) :
    placeCursor table (s, index, ended) = s := by
  show s.setSetup { s.setup with cursor := some ⟨table, index⟩ } = s
  rw [← h]
  rfl

/-- A WRITE without a complete entry writes nothing; a part of an entry is refused (R39, R40). -/
theorem write_noEntry (h : s.setup.cursor = some ⟨table, index⟩) (hro : table.readOnly = false)
    (hlen : payload.length < table.entryBytes) :
    write payload s = if payload = [] then s else refuse .badLength .write s := by
  have hcount : payload.length / table.entryBytes = 0 := Nat.div_eq_of_lt hlen
  rw [write_passed h hro (by rw [hcount]; rfl), hcount, Nat.mod_eq_of_lt hlen]
  by_cases hp : payload = []
  · subst hp
    exact placeCursor_same h none
  · have hpos : payload.length ≠ 0 := by simpa using hp
    have hrefusal : writeRefusal payload.length none = some .badLength := if_neg hpos
    simp only [if_neg hp, finishWrite, chunks, writeEntries, hrefusal, placeCursor_same h]

end

theorem TableId.entryBytes_pos (table : TableId) : 0 < table.entryBytes := by
  cases table <;> exact Nat.succ_pos _

theorem exec_write (payload : List Byte) (s : State) : exec (.write payload) s = .next (write payload s) := rfl

theorem writeTests : Claims.WriteTests := by
  intro payload s
  simp only [exec_write]
  refine ⟨fun h => by rw [write_noCursor h], fun table index h => ⟨fun hro => by rw [write_readOnly h hro],
    fun hro huse => by rw [write_inUse h hro (writeInUse_iff.2 huse)], fun hro hp => ?_⟩⟩
  rw [write_noEntry h hro (by rw [hp]; exact table.entryBytes_pos), if_pos hp]

/-! ## The first entry (R40) -/

section
variable {table : TableId} {index : Nat} {e : List Byte} {s : State}

@[simp] theorem writeEffect_setup : (writeEffect table index s).setup = s.setup := by
  rcases writeEffect_cases table index s with ⟨-, h⟩ | ⟨-, h⟩ | ⟨-, -, h⟩ <;> rw [h] <;> rfl

variable {rest : List (List Byte)}

theorem writeEntries_atEnd (h : table.entries ≤ index) :
    writeEntries table (e :: rest) index s = (s, index, some .tableEnd) := by
  rw [writeEntries, if_pos h]

theorem writeEntries_bad (h : index < table.entries) (hput : putEntry table index e s.setup = none) :
    writeEntries table (e :: rest) index s = (s, index, some .badField) := by
  rw [writeEntries, if_neg (Nat.not_le.2 h), hput]

theorem writeEntries_stored (h : index < table.entries) {u : Setup} (hput : putEntry table index e s.setup = some u) :
    writeEntries table (e :: rest) index s =
      writeEntries table rest (index + 1) (writeEffect table index (s.setSetup u)) := by
  rw [writeEntries, if_neg (Nat.not_le.2 h), hput]

end

/-- One complete entry in front of a payload is its first chunk. -/
theorem chunks_cons_entry {size : Nat} (hpos : 0 < size) {e : List Byte} (he : e.length = size) (rest : List Byte) :
    (e ++ rest).length % size = rest.length % size ∧
    chunks size ((e ++ rest).length / size) (e ++ rest) = e :: chunks size (rest.length / size) rest := by
  subst he
  have hlen : (e ++ rest).length = rest.length + e.length := by rw [List.length_append, Nat.add_comm]
  rw [hlen, Nat.add_mod_right, Nat.add_div_right _ hpos]
  exact ⟨rfl, by rw [chunks, List.take_left' rfl, List.drop_left' rfl]⟩

section
variable {e rest : List Byte} {table : TableId} {index : Nat} {s : State}
  (h : s.setup.cursor = some ⟨table, index⟩) (hro : table.readOnly = false) (he : e.length = table.entryBytes)
  (huse : ∀ k ≤ rest.length / table.entryBytes, index + k < table.entries → entryInUse s table (index + k) = false)
include h hro he huse

/-- A WRITE that begins with a complete entry and passes the tests of R39. -/
theorem write_entry_and_rest : write (e ++ rest) s = finishWrite table (rest.length % table.entryBytes)
    (writeEntries table (e :: chunks table.entryBytes (rest.length / table.entryBytes) rest) index s) := by
  obtain ⟨hmod, hchunks⟩ := chunks_cons_entry table.entryBytes_pos he rest
  have hcount : (e ++ rest).length / table.entryBytes = rest.length / table.entryBytes + 1 := by
    have := congrArg List.length hchunks
    rwa [chunks_length, List.length_cons, chunks_length] at this
  rw [write_passed h hro, hmod, hchunks]
  exact writeInUse_eq_false.2 fun k hk => huse k (by omega)

theorem write_entry_atEnd (hend : table.entries ≤ index) : write (e ++ rest) s = refuse .tableEnd .write s := by
  rw [write_entry_and_rest h hro he huse, writeEntries_atEnd hend]
  simp only [finishWrite, writeRefusal, placeCursor_same h]

theorem write_entry_bad (hlt : index < table.entries) (hput : putEntry table index e s.setup = none) :
    write (e ++ rest) s = refuse .badField .write s := by
  rw [write_entry_and_rest h hro he huse, writeEntries_bad hlt hput]
  simp only [finishWrite, writeRefusal, placeCursor_same h]

end

/-- The part after one entry has been stored: the entry in its table, its side effect, the cursor one further (R40). -/
def storedEntry (table : TableId) (index : Nat) (u : Setup) (s : State) : State :=
  (writeEffect table index (s.setSetup u)).setSetup { u with cursor := some ⟨table, index + 1⟩ }

/-- A WRITE of one complete entry that its table takes (R40). -/
theorem write_one {e : List Byte} {table : TableId} {index : Nat} {s : State} {u : Setup}
    (h : s.setup.cursor = some ⟨table, index⟩) (hro : table.readOnly = false) (he : e.length = table.entryBytes)
    (hlt : index < table.entries) (huse : entryInUse s table index = false)
    (hput : putEntry table index e s.setup = some u) :
    write e s = storedEntry table index u s := by
  have entries := write_entry_and_rest (rest := []) h hro he fun k hk _ => by
    obtain rfl : k = 0 := by simpa using hk
    exact huse
  rw [List.append_nil, writeEntries_stored hlt hput] at entries
  rw [entries, List.length_nil, Nat.zero_mod, Nat.zero_div]
  show (writeEffect table index (s.setSetup u)).setSetup
    { (writeEffect table index (s.setSetup u)).setup with cursor := some ⟨table, index + 1⟩ } = _
  rw [writeEffect_setup]
  rfl

/-! ## The rest of the entries (R40) -/

/-- The part with the cursor elsewhere. -/
def withCursor (c : Option Cursor) (s : State) : State := s.setSetup { s.setup with cursor := c }

theorem putEntry_withCursor (table : TableId) (index : Nat) (e : List Byte) (c : Option Cursor) (u : Setup) :
    putEntry table index e { u with cursor := c } =
      (putEntry table index e u).map fun v => { v with cursor := c } := by
  cases table with
  | fontMetrics =>
    simp only [putEntry]
    split <;> simp [Option.map_map, Function.comp_def]
  | glyphs f => rfl
  | _ => simp [putEntry, Option.map_map, Function.comp_def]

theorem writeEffect_withCursor (table : TableId) (index : Nat) (c : Option Cursor) (s : State) :
    writeEffect table index (withCursor c s) = withCursor c (writeEffect table index s) := by
  cases table <;> rfl

/-- What the entries of a WRITE do has nothing to do with where the cursor stood. -/
theorem writeEntries_withCursor (table : TableId) (c : Option Cursor) (entries : List (List Byte)) (index : Nat)
    (s : State) : writeEntries table entries index (withCursor c s) =
      (withCursor c (writeEntries table entries index s).1, (writeEntries table entries index s).2) := by
  induction entries generalizing index s with
  | nil => rfl
  | cons e entries ih =>
    by_cases hend : table.entries ≤ index
    · rw [writeEntries_atEnd hend, writeEntries_atEnd hend]
    · have hlt := Nat.not_le.1 hend
      have hmoved : putEntry table index e (withCursor c s).setup =
          (putEntry table index e s.setup).map fun v => { v with cursor := c } := putEntry_withCursor _ _ _ _ _
      cases hput : putEntry table index e s.setup with
      | none =>
        rw [hput] at hmoved
        rw [writeEntries_bad hlt hput, writeEntries_bad hlt hmoved]
      | some u =>
        rw [hput] at hmoved
        rw [writeEntries_stored hlt hput, writeEntries_stored hlt hmoved, ← ih, ← writeEffect_withCursor]
        rfl

theorem finishWrite_withCursor (table : TableId) (trailing : Nat) (c : Option Cursor)
    (r : State × Nat × Option RefusalCode) :
    finishWrite table trailing (withCursor c r.1, r.2) = finishWrite table trailing r := rfl

/-- An entry stored brings no font and no tile into use: a TILES entry empties its tile (R38, R154). -/
theorem entryInUse_storedEntry {table table' : TableId} {index index' : Nat} {u : Setup} {s : State}
    (h : entryInUse s table' index' = false) : entryInUse (storedEntry table index u s) table' index' = false := by
  have hframe : (storedEntry table index u s).engine = s.engine ∧
      (storedEntry table index u s).compositor = s.compositor := by cases table <;> exact ⟨rfl, rfl⟩
  obtain ⟨hengine, hcompositor⟩ := hframe
  have hfont (f : Nat) : fontInUse (storedEntry table index u s) f = fontInUse s f := by
    unfold fontInUse
    rw [hengine, hcompositor]
  cases table' with
  | fontMetrics => exact (hfont _).trans h
  | glyphs f => exact (hfont _).trans h
  | tiles =>
    have hshown (t : Byte) : tileShown (storedEntry table index u s) t = tileShown s t := by
      unfold tileShown
      rw [hengine]
    have hloading (t : Byte) : ((storedEntry table index u s).pictures.directory.read t.toNat).state = .loading →
        (s.pictures.directory.read t.toNat).state = .loading := by
      rcases writeEffect_cases table index (s.setSetup u) with ⟨-, e⟩ | ⟨-, e⟩ | ⟨-, -, e⟩ <;>
        simp only [storedEntry, e, State.setSetup_pictures, State.setTimeBase_pictures, State.setPictures_pictures,
          Pictures.setTile, Table.read_write, imp_self]
      split
      · intro hempty
        cases hempty
      · exact id
    rw [entryInUse, ← Bool.not_eq_true, tileInUse_iff] at h ⊢
    rw [hshown]
    exact fun hused => h (hused.imp id (hloading _))
  | _ => rfl

/-- A stored entry in front of others: the WRITE goes on as the WRITE of the rest (R40). -/
theorem write_entry_stored {e rest : List Byte} {table : TableId} {index : Nat} {s : State} {u : Setup}
    (h : s.setup.cursor = some ⟨table, index⟩) (hro : table.readOnly = false) (he : e.length = table.entryBytes)
    (huse : ∀ k ≤ rest.length / table.entryBytes, index + k < table.entries → entryInUse s table (index + k) = false)
    (hlt : index < table.entries) (hput : putEntry table index e s.setup = some u) :
    write (e ++ rest) s = write rest (storedEntry table index u s) := by
  have unused : writeInUse (storedEntry table index u s) table (index + 1) (rest.length / table.entryBytes) = false :=
    writeInUse_eq_false.2 fun k hk hin => entryInUse_storedEntry (by
      have := huse (k + 1) hk (by omega)
      rwa [show index + 1 + k = index + (k + 1) by omega])
  have moved : storedEntry table index u s =
      withCursor (some ⟨table, index + 1⟩) (writeEffect table index (s.setSetup u)) := by
    unfold storedEntry withCursor
    rw [writeEffect_setup]
    rfl
  rw [write_entry_and_rest h hro he huse, writeEntries_stored hlt hput,
    write_passed (s := storedEntry table index u s) rfl hro unused, moved, writeEntries_withCursor,
    finishWrite_withCursor]

theorem writeGoesEntryByEntry : Claims.WriteGoesEntryByEntry := by
  intro e rest table index s h hro he huse
  simp only [exec_write]
  refine ⟨fun hend => by rw [write_entry_atEnd h hro he huse hend],
    fun hlt hput => by rw [write_entry_bad h hro he huse hlt hput], fun hlt hput => ?_, fun hne hlen => ?_⟩
  · obtain ⟨u, hput⟩ := Option.ne_none_iff_exists'.1 hput
    exact ⟨storedEntry table index u s,
      by rw [write_one h hro he hlt (huse 0 (Nat.zero_le _) hlt) hput],
      by rw [write_entry_stored h hro he huse hlt hput]⟩
  · rw [write_noEntry h hro hlen, if_neg hne]

/-- Settles O25: the tests of a WRITE, then its entries one after the other. -/
theorem writeOutcome : Obligations.WriteOutcome := ⟨writeTests, inUseRule, writeGoesEntryByEntry⟩

/-! ## One entry, table by table (R43 to R51) -/

theorem putEntry_fontHeight (f : Nat) (e : List Byte) (u : Setup) : putEntry .fontMetrics (f * 26) e u =
    some { u with fontHeights := u.fontHeights.write f (decodeFontHeight e) } := by
  simp [putEntry, metricFont]

theorem metricFont_glyph (f : Nat) {c : Nat} (hc : c < 25) : metricFont (f * 26 + 1 + c) = f := by
  unfold metricFont
  omega

theorem putEntry_metric {f c : Nat} (hc : c < 25) (e : List Byte) (u : Setup) :
    putEntry .fontMetrics (f * 26 + 1 + c) e u =
      (decodeMetric e).map fun m => { u with metrics := u.metrics.write (f * 25 + c) m } := by
  have hnot : (f * 26 + 1 + c) % 26 ≠ 0 := by omega
  have hcode : (f * 26 + 1 + c) % 26 - 1 = c := by omega
  rw [putEntry, if_neg hnot, hcode, metricFont_glyph f hc]
  rfl

/-- Settles O24: what one entry stores is the table's own rule; the rest is the same for every table. -/
theorem writeStoresEntry : Obligations.WriteStoresEntry := by
  unfold Obligations.WriteStoresEntry
  intro e i s
  simp only [exec_write]
  refine ⟨fun c h he hd => ?canvas, fun x h hi he hd => ?heads, fun x h hi he hd => ?slots,
    fun f h hi he hd => ?formats, fun f hf h he huse => ?height, fun f hf c hc m h he huse hd => ?metric,
    fun f v h hi he huse => ?glyphs, fun x h hi he hd => ?schedule, fun g h hi he hd => ?groups,
    fun t h hi he hd huse => ?tiles⟩
  case canvas => rw [write_one h rfl he Nat.one_pos rfl (congrArg (Option.map _) hd)]; rfl
  case heads => rw [write_one h rfl he hi rfl (congrArg (Option.map _) hd)]; rfl
  case slots => rw [write_one h rfl he hi rfl (congrArg (Option.map _) hd)]; rfl
  case formats => rw [write_one h rfl he hi rfl (congrArg (Option.map _) hd)]; rfl
  case schedule => rw [write_one h rfl he hi rfl (congrArg (Option.map _) hd)]; rfl
  case groups => rw [write_one h rfl he hi rfl (congrArg (Option.map _) hd)]; rfl
  case height =>
    have hfont : metricFont (f * 26) = f := Nat.mul_div_cancel _ (by decide)
    have hentries : f * 26 < TableId.fontMetrics.entries := by show f * 26 < 104; omega
    have hfree : entryInUse s .fontMetrics (f * 26) = false := by rw [entryInUse, hfont, huse]
    rw [write_one h rfl he hentries hfree (putEntry_fontHeight f e _)]
    rfl
  case metric =>
    have hentries : f * 26 + 1 + c < TableId.fontMetrics.entries := by show f * 26 + 1 + c < 104; omega
    have hfree : entryInUse s .fontMetrics (f * 26 + 1 + c) = false := by
      rw [entryInUse, metricFont_glyph f hc, huse]
    rw [write_one h rfl he hentries hfree ((putEntry_metric hc e _).trans (congrArg (Option.map _) hd)), storedEntry,
      show f * 26 + 1 + c + 1 = f * 26 + 2 + c by omega]
    rfl
  case glyphs =>
    subst he
    rw [write_one h rfl rfl hi huse rfl]
    rfl
  case tiles =>
    have htile : (BitVec.ofNat 8 i).toNat = i := toNat_ofNat_byte hi
    rw [write_one h rfl he hi huse (congrArg (Option.map _) hd), storedEntry, writeEffect, Pictures.setTile, htile]
    rfl

end Sys2Proof.Machine
end

section
/-! PROOFS. SET_NODE and the two QUERY rows: what they do, and when they are refused (R41, R182 to R184). -/

namespace Sys2Proof.Machine

/-! ## SET_NODE (R182) -/

theorem exec_setNode (broadcast : Bool) (payload : List Byte) (s : State) :
    exec (.setNode broadcast payload) s = .next (settle .setNode s (setNode broadcast payload s)) := rfl

/-- A byte above 7 is no node number (R182). -/
theorem setNode_high {v : Byte} (h : 7 < v.toNat) (s : State) : setNode false [v] s = .error .badField := by
  have hnone : finOf 8 v.toNat = none := finOf_eq_none.2 h
  simp [setNode, byteAt, hnone]

theorem setNode_node {v : Byte} {n : Fin 8} (h : n.val = v.toNat) (s : State) :
    setNode false [v] s = .ok (s.setPort { s.port with node := n }) := by
  have hsome : finOf 8 v.toNat = some n := finOf_eq_some.2 h
  simp [setNode, byteAt, hsome]

theorem setNodeOutcome : Claims.SetNodeOutcome := by
  refine ⟨fun _ _ => rfl, fun payload s hlen => ?_, fun v s hv => ?_, fun n s => ?_⟩
  · rw [exec_setNode, setNode, if_neg (by decide), if_pos hlen, settle_error]
  · rw [exec_setNode, setNode_high hv, settle_error]
  · rw [exec_setNode, setNode_node (toNat_ofNat_byte (by omega)).symm, settle_ok]
    rfl

/-! ## QUERY (R183) -/

/-- Both rows of a QUERY are the one check of R183. -/
theorem exec_query {q : Bool → List Byte → Instr} (hq : q = Instr.queryStatus ∨ q = Instr.queryRead) (broadcast : Bool)
    (payload : List Byte) (s : State) :
    exec (q broadcast payload) s = .next (settle .query s (query broadcast payload s)) := by
  rcases hq with rfl | rfl <;> rfl

section
variable {kind : Byte} {rest : List Byte} {s : State}

theorem query_badKind (h : 1 < kind.toNat) : query false (kind :: rest) s = .error .badField := by
  simp [query, h]

theorem query_badLength (h : kind.toNat ≤ 1) (hlen : rest.length ≠ kind.toNat) :
    query false (kind :: rest) s = .error .badLength := by
  simp [query, Nat.not_lt.2 h, hlen]

/-- A QUERY that fits its type is refused while a reply waits or is sent, and else accepted. -/
theorem query_fits (h : kind.toNat ≤ 1) (hlen : rest.length = kind.toNat) : query false (kind :: rest) s =
    if s.port.reply ≠ .idle then .error .replyBusy
    else if kind = 0 then .ok (acceptQuery .status s)
    else .ok (acceptRead (byteAt rest 0).toNat s) := by
  simp [query, Nat.not_lt.2 h, hlen]

end

theorem queryRefusals : Claims.QueryRefusals := by
  intro q hq s
  simp only [exec_query hq]
  refine ⟨fun _ => rfl, rfl, fun kind rest h => ?_, fun kind rest h hlen => ?_, fun hbusy => ?_, fun hbusy n => ?_⟩
  · rw [query_badKind h, settle_error]
  · rw [query_badLength h hlen, settle_error]
  · rw [query_fits (by decide) rfl, if_pos hbusy, settle_error]
  · rw [query_fits (by decide) rfl, if_pos hbusy, settle_error]

theorem exec_queryStatus_idle {s : State} (h : s.port.reply = .idle) :
    exec (.queryStatus false [0]) s = .next (acceptQuery .status s) := by
  rw [exec_query (.inl rfl), query_fits (by decide) rfl, if_neg (by simp [h]), if_pos rfl, settle_ok]

theorem exec_queryRead_idle {s : State} (h : s.port.reply = .idle) (n : Byte) :
    exec (.queryRead false [1, n]) s = .next (acceptRead n.toNat s) := by
  rw [exec_query (.inr rfl), query_fits (by decide) rfl, if_neg (by simp [h]), if_neg (by decide), settle_ok]
  rfl

theorem queryAccepted : Claims.QueryAccepted := by
  intro s h
  refine ⟨by rw [exec_queryStatus_idle h]; rfl, fun n hc => ?_, fun n table index hc => ?_⟩
  · have none : ({ s.setup with cursor := advanceCursor s.setup.cursor n.toNat } : Setup) = s.setup := by
      rw [hc, advanceCursor, Option.map_none, ← hc]
    rw [exec_queryRead_idle h, acceptRead, none, hc]
    rfl
  · rw [exec_queryRead_idle h, acceptRead, hc]
    rfl

/-- Settles O56: SET_NODE by its byte, a QUERY by its type and the reply state. -/
theorem portPackets : Obligations.PortPackets := ⟨setNodeOutcome, queryRefusals, queryAccepted⟩

end Sys2Proof.Machine
end

section
/-! PROOFS. The entries a READ carries, and what each table's entry says (R36, R41, R42, R54 to R57, R136). -/

namespace Sys2Proof.Machine

/-! ## Entries in index order (R36, R41) -/

/-- Every entry has its table's size (R36). -/
theorem readEntry_length (s : State) (table : TableId) (index : Nat) :
    (readEntry s table index).length = table.entryBytes := by
  cases table with
  | canvas => exact encodeCanvas_length _
  | heads => exact encodeHead_length _
  | slots => exact encodeSlot_length _
  | formats => exact encodeFormat_length _
  | fontMetrics =>
    rw [readEntry]
    split
    · exact encodeFontHeight_length _
    · exact encodeMetric_length _
  | glyphs f => rfl
  | schedule => exact encodeSchedule_length _
  | groups => exact encodeGroup_length _
  | tiles => exact encodeTile_length _
  | items => rfl
  | book b => rfl
  | bindings => rfl
  | render => exact leBytes_length 16 _
  | groupState => rfl

theorem readEntries_succ (s : State) (table : TableId) (first count : Nat) :
    readEntries s table first (count + 1) = readEntry s table first ++ readEntries s table (first + 1) count := by
  simp only [readEntries, List.range_succ_eq_map, List.map_cons, List.map_map, List.flatten_cons, Nat.add_zero]
  congr 3
  funext k
  rw [Function.comp_apply, Nat.succ_eq_add_one]
  congr 1
  omega

theorem readEntries_length (s : State) (table : TableId) (first count : Nat) :
    (readEntries s table first count).length = count * table.entryBytes := by
  induction count generalizing first with
  | zero => simp [readEntries]
  | succ count ih => rw [readEntries_succ, List.length_append, readEntry_length, ih, Nat.succ_mul, Nat.add_comm]

/-- Each entry stands at its place in the order of the indexes (R41). -/
theorem readEntries_slice (s : State) (table : TableId) (first : Nat) {count k : Nat} (h : k < count) :
    ((readEntries s table first count).drop (k * table.entryBytes)).take table.entryBytes =
      readEntry s table (first + k) := by
  induction count generalizing first k with
  | zero => omega
  | succ count ih =>
    rw [readEntries_succ]
    cases k with
    | zero => rw [Nat.zero_mul, List.drop_zero, List.take_left' (readEntry_length s table first), Nat.add_zero]
    | succ k =>
      rw [Nat.succ_mul, Nat.add_comm, ← List.drop_drop, List.drop_left' (readEntry_length s table first),
        ih (first + 1) (by omega), Nat.add_right_comm, Nat.add_assoc]

theorem readCarriesEntries : Claims.ReadCarriesEntries := by
  refine ⟨readEntry_length, fun s table first count =>
    ⟨readEntries_length s table first count, fun k hk => readEntries_slice s table first hk⟩, fun s c n => ?_⟩
  have hcount : readCount c n ≤ 248 / c.table.entryBytes := Nat.le_trans (Nat.min_le_right _ _) (Nat.min_le_left _ _)
  calc (readEntries s c.table c.index (readCount c n)).length
      = readCount c n * c.table.entryBytes := readEntries_length _ _ _ _
    _ ≤ 248 / c.table.entryBytes * c.table.entryBytes := Nat.mul_le_mul_right _ hcount
    _ ≤ 248 := Nat.div_mul_le_self _ _

/-! ## The setup tables (R42, R54, R55) -/

theorem readEntry_fontHeight (s : State) (f : Nat) :
    readEntry s .fontMetrics (f * 26) = encodeFontHeight (s.setup.fontHeights.read f) := by
  simp [readEntry, metricFont]

theorem readEntry_metric (s : State) (f : Nat) {c : Nat} (hc : c < 25) :
    readEntry s .fontMetrics (f * 26 + 1 + c) = encodeMetric (s.setup.metrics.read (f * 25 + c)) := by
  have hnot : (f * 26 + 1 + c) % 26 ≠ 0 := by omega
  have hcode : (f * 26 + 1 + c) % 26 - 1 = c := by omega
  rw [readEntry, if_neg hnot, hcode, metricFont_glyph f hc]
  rfl

/-- Three flags in a byte leave its upper bits 0 (R46). -/
theorem encodeFormat_flags_lt (f : FormatEntry) : (byteAt (encodeFormat f) 7).toNat < 8 := by
  have flags : ∀ a b c : Bool, (BitVec.ofNat 8 (bit a + 2 * bit b + 4 * bit c)).toNat < 8 := by decide
  exact flags f.raised f.dropZeroFraction f.zeroMark

theorem encodeGroup_flags_lt (g : GroupEntry) : (byteAt (encodeGroup g) 16).toNat < 64 := by
  have hmode := g.mode.number_le
  have hskip := bit_le g.skipUnavailable
  rw [encodeGroup_flags, toNat_ofNat_byte (by omega)]
  omega

theorem setupEntriesRead : Claims.SetupEntriesRead :=
  ⟨fun s _ => ⟨rfl, rfl, rfl, rfl, rfl, rfl, rfl, fun _ => rfl,
      fun f _ => ⟨readEntry_fontHeight s f, fun _ hc => readEntry_metric s f hc⟩⟩,
    fun _ => rfl, fun _ => ⟨rfl, rfl⟩, encodeFormat_flags_lt, fun _ => rfl, fun _ => rfl, encodeGroup_flags_lt,
    fun _ => rfl⟩

/-! ## The live price state and the groups (R56) -/

theorem Status.number_lt (x : Status) : x.number < 3 := by cases x <;> decide

theorem Modifier.kindNumber_lt (m : Modifier) : m.kindNumber < 4 := by
  cases m <;> simp [kindNumber]

theorem Modifier.value_lt (m : Modifier) : m.value < 100000 := by
  cases m with
  | none => decide
  | percentOff tenths => exact Nat.lt_trans tenths.isLt (by decide)
  | amountOff amount => exact amount.isLt
  | fixed price => exact price.isLt

theorem Source.kindNumber_lt (x : Source) : x.kindNumber < 3 := by
  cases x <;> simp [kindNumber]

theorem Source.number_lt (x : Source) : x.number < 1024 := by
  cases x with
  | none => decide
  | item n => exact n.isLt
  | group g => exact Nat.lt_trans g.isLt (by decide)

theorem TileChoice.kindNumber_lt (x : TileChoice) : x.kindNumber < 3 := by
  cases x <;> simp [kindNumber]

/-- An ITEMS entry, field by field (R56). -/
theorem encodeItem_fields (x : Item) : field (encodeItem x) 0 1 = x.status.number ∧
    field (encodeItem x) 1 1 = x.modifier.kindNumber ∧ field (encodeItem x) 2 3 = x.modifier.value ∧
    byteAt (encodeItem x) 5 = x.tile.getD 0 ∧ byteAt (encodeItem x) 6 = x.soldOutTile.getD 0 ∧
    field (encodeItem x) 7 1 = bit x.tile.isSome + 2 * bit x.soldOutTile.isSome := by
  have hstatus := x.status.number_lt
  have hkind := x.modifier.kindNumber_lt
  have hvalue := x.modifier.value_lt
  have htile := bit_le x.tile.isSome
  have hsold := bit_le x.soldOutTile.isSome
  exact ⟨leNat_leBytes_of_lt (n := 1) (by omega), leNat_leBytes_of_lt (n := 1) (by omega),
    leNat_leBytes_of_lt (n := 3) (by omega), rfl, rfl, leNat_leBytes_of_lt (n := 1) (by omega)⟩

/-- A BOOK entry: the price in three bytes, or 0xFFFFFF (R56). -/
theorem encodePrice_field (p : Option Price) : field (encodePrice p) 0 3 = (p.map Fin.val).getD 0xFFFFFF := by
  refine leNat_leBytes_of_lt (n := 3) ?_
  cases p with
  | none => decide
  | some price => exact Nat.lt_trans price.isLt (by decide)

/-- A BINDINGS entry, field by field (R56). -/
theorem encodeBinding_fields (x : Binding) :
    field (encodeBinding x) 0 1 = bit x.active + 4 * x.source.kindNumber + 16 * x.tileChoice.kindNumber ∧
    field (encodeBinding x) 1 2 = x.source.number ∧ byteAt (encodeBinding x) 3 = x.tileChoice.number := by
  have hactive := bit_le x.active
  have hsource := x.source.kindNumber_lt
  have hnumber := x.source.number_lt
  have hchoice := x.tileChoice.kindNumber_lt
  exact ⟨leNat_leBytes_of_lt (n := 1) (by omega), leNat_leBytes_of_lt (n := 2) (by omega), rfl⟩

/-- A GROUP_STATE entry, field by field (R56). -/
theorem encodeRun_fields {r : GroupRun} (hindex : r.index < 256) (hcount : r.count < 65536) :
    field (encodeRun r) 0 1 = r.index ∧ field (encodeRun r) 1 1 = bit r.stopped + 2 * bit r.badLeader ∧
    field (encodeRun r) 2 2 = r.count := by
  have hstopped := bit_le r.stopped
  have hbad := bit_le r.badLeader
  exact ⟨leNat_leBytes_of_lt (n := 1) hindex, leNat_leBytes_of_lt (n := 1) (by omega),
    leNat_leBytes_of_lt (n := 2) hcount⟩

theorem liveEntriesRead : Claims.LiveEntriesRead := by
  intro s i
  refine ⟨encodeItem_fields _, fun b => ⟨fun h => ?none, fun p h => ?price, rfl⟩, ?binding, encodeRun_fields⟩
  case none => exact (encodePrice_field _).trans (by rw [h]; rfl)
  case price => exact (encodePrice_field _).trans (by rw [h]; rfl)
  case binding =>
    obtain ⟨hkinds, hnumber, htile⟩ := encodeBinding_fields (s.live.bindings.read i)
    refine ⟨hkinds, hnumber, htile.trans ?_⟩
    cases (s.live.bindings.read i).tileChoice <;> rfl

/-! ## Fields of bits -/

/-- Fields of so many bits each, one above the other from bit 0: a list of widths and values, each value cut to its
width. -/
def packBits : List (Nat × Nat) → Nat
  | [] => 0
  | (width, value) :: rest => value % 2 ^ width + 2 ^ width * packBits rest

/-- From a bit position on, a number holds fields one above the other. -/
def HoldsBits (v : Nat) : Nat → List (Nat × Nat) → Prop
  | _, [] => True
  | low, (width, value) :: rest => v / 2 ^ low % 2 ^ width = value ∧ HoldsBits v (low + width) rest

/-- A packed number is as wide as its fields together. -/
theorem packBits_lt (l : List (Nat × Nat)) : packBits l < 2 ^ layoutWidth l := by
  induction l with
  | nil => exact Nat.one_pos
  | cons q l ih =>
    have hvalue : q.2 % 2 ^ q.1 < 2 ^ q.1 := Nat.mod_lt _ (Nat.two_pow_pos _)
    have hwidth : layoutWidth (q :: l) = q.1 + layoutWidth l := by simp [layoutWidth]
    rw [hwidth, Nat.pow_add]
    show q.2 % 2 ^ q.1 + 2 ^ q.1 * packBits l < _
    calc q.2 % 2 ^ q.1 + 2 ^ q.1 * packBits l < 2 ^ q.1 + 2 ^ q.1 * packBits l := Nat.add_lt_add_right hvalue _
      _ = 2 ^ q.1 * (packBits l + 1) := by rw [Nat.mul_add, Nat.mul_one, Nat.add_comm]
      _ ≤ 2 ^ q.1 * 2 ^ layoutWidth l := Nat.mul_le_mul_left _ ih

/-- A number whose upper part is packed fields holds them, where the values fit their widths. -/
theorem holdsBits_of_packBits {v : Nat} {l : List (Nat × Nat)} (fits : ∀ q ∈ l, q.2 < 2 ^ q.1) {low : Nat}
    (h : v / 2 ^ low = packBits l) : HoldsBits v low l := by
  induction l generalizing low with
  | nil => trivial
  | cons q l ih =>
    obtain ⟨width, value⟩ := q
    obtain ⟨hvalue, hl⟩ := List.forall_mem_cons.1 fits
    have hpack : v / 2 ^ low = value + 2 ^ width * packBits l := by rw [h, packBits, Nat.mod_eq_of_lt hvalue]
    refine ⟨?_, ih hl ?_⟩
    · rw [hpack, Nat.add_mul_mod_self_left, Nat.mod_eq_of_lt hvalue]
    · rw [Nat.pow_add, ← Nat.div_div_eq_div_mul, hpack, Nat.add_mul_div_left _ _ (Nat.two_pow_pos _),
        Nat.div_eq_of_lt hvalue, Nat.zero_add]

/-! ## RENDER (R57, R136) -/

/-- The fields of a RENDER entry from bit 0 on: their widths and what they hold (R57). -/
def renderFields (r : RenderRecord) : List (Nat × Nat) :=
  [(17, r.display), (3, r.run.length), (1, bit r.visible), (2, r.applied.number), (1, bit r.tile.isSome),
   (8, (r.tile.getD 0).toNat), (10, (r.item.map Fin.val).getD 0), (1, bit r.item.isSome), (1, bit r.flags.saturated),
   (1, bit r.flags.currencyDropped), (1, bit r.flags.overflow), (1, bit r.flags.noPrice), (1, bit r.flags.soldOut),
   (1, bit r.flags.glyphMissing), (1, bit r.flags.noFit), (5, r.run.getD 0 31), (5, r.run.getD 1 31),
   (5, r.run.getD 2 31), (5, r.run.getD 3 31), (5, r.run.getD 4 31), (5, r.run.getD 5 31), (5, r.run.getD 6 31),
   (13, r.xOffset), (13, r.yOffset), (1, 0), (16, r.generation.toNat)]

theorem renderFields_width (r : RenderRecord) : layoutWidth (renderFields r) = 128 := by
  simp only [layoutWidth, renderFields, List.map_cons, List.map_nil, List.sum_cons, List.sum_nil, Nat.reduceAdd]

/-- The seven flags fill their field bit by bit (R57). -/
theorem RenderFlags.number_mod (f : RenderFlags) : f.number % 2 ^ 7 = bit f.saturated % 2 ^ 1 +
    2 * (bit f.currencyDropped % 2 ^ 1) + 4 * (bit f.overflow % 2 ^ 1) + 8 * (bit f.noPrice % 2 ^ 1) +
    16 * (bit f.soldOut % 2 ^ 1) + 32 * (bit f.glyphMissing % 2 ^ 1) + 64 * (bit f.noFit % 2 ^ 1) := by
  have hsaturated := bit_le f.saturated
  have hcurrency := bit_le f.currencyDropped
  have hoverflow := bit_le f.overflow
  have hprice := bit_le f.noPrice
  have hsold := bit_le f.soldOut
  have hmissing := bit_le f.glyphMissing
  have hfit := bit_le f.noFit
  unfold RenderFlags.number
  omega

theorem renderNumber_eq (r : RenderRecord) : renderNumber r = packBits (renderFields r) := by
  simp only [renderNumber, renderFields, packBits, place, RenderFlags.number_mod]
  ring

theorem leNat_encodeRender (r : RenderRecord) : leNat (encodeRender r) = packBits (renderFields r) := by
  have hlt := packBits_lt (renderFields r)
  rw [renderFields_width] at hlt
  rw [encodeRender, renderNumber_eq, leNat_leBytes_of_lt (n := 16) hlt]

theorem Applied.number_lt (a : Applied) : a.number < 4 := by
  cases a <;> simp [number]

theorem item_number_lt (i : Option (Fin 1024)) : (i.map Fin.val).getD 0 < 1024 := by
  cases i with
  | none => decide
  | some n => exact n.isLt

/-- A glyph position reads a code, or 31 past the run (R57). -/
theorem RecordLegal.glyph_lt {r : RenderRecord} (h : RecordLegal r) (i : Nat) : r.run.getD i 31 < 32 := by
  rw [List.getD_eq_getElem?_getD]
  cases hi : r.run[i]? with
  | none => decide
  | some c => exact Nat.lt_of_le_of_lt (h.codes c (List.mem_of_getElem? hi)) (by decide)

theorem renderFields_fit {r : RenderRecord} (h : RecordLegal r) (hx : r.xOffset < 2 ^ 13) (hy : r.yOffset < 2 ^ 13) :
    ∀ q ∈ renderFields r, q.2 < 2 ^ q.1 := by
  have flag (b : Bool) : bit b < 2 ^ 1 := Nat.lt_succ_of_le (bit_le b)
  have hdisplay := h.display
  have hlength := h.length
  simp only [renderFields, List.forall_mem_cons]
  exact ⟨by omega, by omega, flag _, Applied.number_lt _, flag _, BitVec.isLt _, item_number_lt _, flag _, flag _,
    flag _, flag _, flag _, flag _, flag _, flag _, h.glyph_lt 0, h.glyph_lt 1, h.glyph_lt 2, h.glyph_lt 3,
    h.glyph_lt 4, h.glyph_lt 5, h.glyph_lt 6, hx, hy, by decide, r.generation.isLt, by simp⟩

theorem renderEntriesRead : Claims.RenderEntriesRead := by
  refine ⟨fun _ _ => rfl, fun r h hx hy => ?_⟩
  intro v bits
  have held : HoldsBits v 0 (renderFields r) := holdsBits_of_packBits (renderFields_fit h hx hy)
    ((Nat.div_one _).trans (leNat_encodeRender r))
  clear_value v
  simp only [renderFields, HoldsBits, Nat.reduceAdd] at held
  obtain ⟨display, length, visible, applied, hasTile, tile, item, hasItem, saturated, currency, overflow, noPrice,
    soldOut, missing, noFit, g0, g1, g2, g3, g4, g5, g6, x, y, unused, generation, -⟩ := held
  refine ⟨display, length, visible, applied, hasTile, tile, item, hasItem, saturated, currency, overflow, noPrice,
    soldOut, missing, noFit, fun i hi => ?_, x, y, unused, generation⟩
  match i, hi with
  | 0, _ => exact g0
  | 1, _ => exact g1
  | 2, _ => exact g2
  | 3, _ => exact g3
  | 4, _ => exact g4
  | 5, _ => exact g5
  | 6, _ => exact g6

/-- Settles O59: a READ's entries by their order, each table's entry by its layout. -/
theorem readEntriesLayout : Obligations.ReadEntriesLayout :=
  ⟨readCarriesEntries, setupEntriesRead, liveEntriesRead, renderEntriesRead⟩

end Sys2Proof.Machine
end

section
/-! PROOFS. When a batch is due, what a boundary applies to the live price state, and when the generation number moves
(R64, R66, R88, R90, R92 to R95). -/

namespace Sys2Proof.Machine

/-! ## Due batches (R90) -/

theorem Batch.due_now {b : Batch} (h : b.tag = none) (reading : Option Nat) : b.due reading = true := by
  simp [Batch.due, h]

theorem Batch.due_unset {b : Batch} {tag : Nat} (h : b.tag = some tag) : b.due none = false := by
  simp [Batch.due, h]

theorem Batch.due_tagged {b : Batch} {tag : Nat} (h : b.tag = some tag) (second : Nat) :
    b.due (some second) = true ↔ (second + 86400 - tag) % 86400 < 43200 := by
  simp [Batch.due, h]

theorem dueRule : Claims.DueRule := by
  refine ⟨fun _ reading h => Batch.due_now h reading, fun _ _ h => Batch.due_unset h,
    fun b tag second h htag hsecond => ?_, by decide⟩
  rw [Batch.due_tagged h]
  omega

/-! ## What a boundary applies (R88, R92 to R95) -/

/-- Batches applied one after the other are their records applied in order (R93). -/
theorem applyQueue_eq (reading : Option Nat) (queue : List Batch) (l : Live) : applyQueue reading queue l =
    (queue.dropWhile (·.due reading),
      ((queue.takeWhile (·.due reading)).flatMap Batch.records).foldl applyChange l) := by
  induction queue generalizing l with
  | nil => rfl
  | cons b queue ih =>
    by_cases hdue : b.due reading = true
    · simp [applyQueue, hdue, ih, applyBatch]
    · simp [applyQueue, hdue]

/-- The hold flag keeps every batch waiting (R92). -/
theorem Stager.applied_eq (g : Stager) (reading : Option Nat) (l : Live) : g.applied reading l =
    (if g.hold then g.sealed else g.sealed.dropWhile (·.due reading),
      ((if g.hold then [] else g.sealed.takeWhile (·.due reading)).flatMap Batch.records).foldl applyChange l) := by
  cases hhold : g.hold
  · simp [Stager.applied, hhold, applyQueue_eq]
  · simp [Stager.applied, hhold]

/-- Immediate statuses change item records alone (R88). -/
theorem foldl_applyStatus_kept (pairs : List (Fin 1024 × Status)) (l : Live) :
    (pairs.foldl applyStatus l).books = l.books ∧ (pairs.foldl applyStatus l).bindings = l.bindings := by
  induction pairs generalizing l with
  | nil => exact ⟨rfl, rfl⟩
  | cons p pairs ih => exact ih (applyStatus l p)

theorem applicationAtBoundary : Claims.ApplicationAtBoundary := by
  intro s applied left afterBatches afterStatus t
  have happlied : s.stager.applied s.timeBase.reading s.live = (left, afterBatches) := Stager.applied_eq _ _ _
  obtain ⟨hbooks, hbindings⟩ := foldl_applyStatus_kept s.stager.immediate afterBatches
  have hlive : t.live = settleGeneration s.live
      { afterStatus with liveBook := liveBookFor s.setup.schedule s.timeBase.daypart } := by
    show newLive s = _
    rw [newLive, happlied]
  refine ⟨?stager, by rw [hlive]; rfl, by rw [hlive]; exact hbooks, by rw [hlive]; exact hbindings,
    by rw [hlive]; rfl, rfl, rfl, rfl⟩
  show { s.stager with sealed := (s.stager.applied s.timeBase.reading s.live).1, immediate := [] } = _
  rw [happlied]

/-! ## The generation number (R66, R95) -/

/-- Two live states read alike: every item record, book entry and binding, and the live book (R66). -/
def Live.ReadsAs (l m : Live) : Prop :=
  (∀ i, l.items.read i = m.items.read i) ∧ (∀ k, l.books.read k = m.books.read k) ∧
    (∀ i, l.bindings.read i = m.bindings.read i) ∧ l.liveBook = m.liveBook

/-- In canonical form live states with different data differ in something that can be read. -/
theorem liveDiffers_eq_false_iff {l m : Live} (hl : l.Canonical) (hm : m.Canonical) :
    liveDiffers l m = false ↔ m.ReadsAs l := by
  simp only [liveDiffers, decide_eq_false_iff_not, not_or, ne_eq, not_not]
  constructor
  · rintro ⟨hitems, hbooks, hbindings, hbook⟩
    exact ⟨fun _ => by rw [hitems], fun _ => by rw [hbooks], fun _ => by rw [hbindings], hbook.symm⟩
  · rintro ⟨hitems, hbooks, hbindings, hbook⟩
    exact ⟨(Table.ext_of_read hm.items hl.items hitems).symm, (Table.ext_of_read hm.books hl.books hbooks).symm,
      (Table.ext_of_read hm.bindings hl.bindings hbindings).symm, hbook.symm⟩

theorem newLive_generation (s : State) : (newLive s).generation =
    if liveDiffers s.live (newLive s) then s.live.generation + 1 else s.live.generation := rfl

theorem generationCountsChanges : Claims.GenerationCountsChanges := by
  intro s h t
  have hdiffers := liveDiffers_eq_false_iff h.live h.live.newLive
  have hgeneration : t.live.generation = _ := newLive_generation s
  refine ⟨fun hsame => ?_, fun hchanged => ?_⟩
  · rw [hgeneration, hdiffers.2 hsame]
    rfl
  · rw [hgeneration, if_pos (Bool.of_not_eq_false (mt hdiffers.1 hchanged))]

/-- Settles O30: the due rule by its arithmetic, the application by the queue, the generation by the canonical form. -/
theorem boundaryAppliesChanges : Obligations.BoundaryAppliesChanges :=
  ⟨dueRule, applicationAtBoundary, generationCountsChanges⟩

end Sys2Proof.Machine
end

section
/-! PROOFS. Visibility, shown item, shown tile and treatment applied of each slot, as a boundary settles its record (R67
to R71, R119, R121). -/

namespace Sys2Proof.Machine

/-! ## Visibility (R67) -/

theorem daypartAdmits_iff (daypart : Option (Fin 8)) (mask : Byte) :
    daypartAdmits daypart mask = true ↔ ∀ k, daypart = some k → mask.getLsbD k.val = true := by
  cases daypart <;> simp [daypartAdmits]

theorem hiddenItem_eq_false_iff (p : Snapshot) (item : Option (Fin 1024)) :
    hiddenItem p item = false ↔ ∀ n, item = some n → (p.live.items.read n.val).status ≠ .hidden := by
  cases item <;> simp [hiddenItem]

theorem slotVisible_iff (p : Snapshot) (slot : Nat) : slotVisible p slot = true ↔
    (p.live.bindings.read slot).active = true ∧ (p.slots.read slot).w ≠ 0 ∧ (p.slots.read slot).h ≠ 0 ∧
      (∀ k, p.daypart = some k → (p.slots.read slot).dayparts.getLsbD k.val = true) ∧
      ∀ n, namedItem p slot = some n → (p.live.items.read n.val).status ≠ .hidden := by
  simp only [slotVisible, Bool.and_eq_true, bne_iff_ne, Bool.not_eq_true', daypartAdmits_iff,
    hiddenItem_eq_false_iff, and_assoc]

/-! ## Shown tile and treatment applied (R69, R70) -/

theorem altTileShown_iff (i : Item) (e : Treatment) :
    altTileShown i e = true ↔ i.status = .soldOut ∧ e = .altTile ∧ i.soldOutTile.isSome = true := by
  simp only [altTileShown, Bool.and_eq_true, beq_iff_eq, and_assoc]

section
variable {p : Snapshot} {slot : Nat}

theorem shownTile_fixed {x : Byte} (h : (p.live.bindings.read slot).tileChoice = .fixed x) :
    shownTile p slot = some x := by
  simp [shownTile, h]

theorem shownTile_noTile (h : (p.live.bindings.read slot).tileChoice = .noTile) : shownTile p slot = none := by
  simp [shownTile, h]

theorem shownTile_noItem (h : (p.live.bindings.read slot).tileChoice = .itemTile) (hitem : namedItem p slot = none) :
    shownTile p slot = none := by
  simp [shownTile, h, hitem]

theorem shownTile_item {n : Fin 1024} (h : (p.live.bindings.read slot).tileChoice = .itemTile)
    (hitem : namedItem p slot = some n) : shownTile p slot =
      if (p.live.items.read n.val).status = .soldOut ∧ (p.slots.read slot).treatment = .altTile ∧
          (p.live.items.read n.val).soldOutTile.isSome then (p.live.items.read n.val).soldOutTile
        else (p.live.items.read n.val).tile := by
  simp only [shownTile, h, hitem, altTileShown_iff]

theorem appliedTreatment_noItem (h : namedItem p slot = none) : appliedTreatment p slot = .none := by
  simp [appliedTreatment, h]

variable {n : Fin 1024} (hitem : namedItem p slot = some n)
include hitem

theorem appliedTreatment_notSoldOut (h : (p.live.items.read n.val).status ≠ .soldOut) :
    appliedTreatment p slot = .none := by
  simp [appliedTreatment, hitem, h]

/-- The treatment of a SOLD_OUT item is the slot's, ALT_TILE where the sold-out tile shows (R70). -/
theorem appliedTreatment_soldOut (h : (p.live.items.read n.val).status = .soldOut) :
    ((p.slots.read slot).treatment = .none → appliedTreatment p slot = .none) ∧
    ((p.slots.read slot).treatment = .dim → appliedTreatment p slot = .dim (p.slots.read slot).d) ∧
    ((p.slots.read slot).treatment = .grey → appliedTreatment p slot = .grey) ∧
    ((p.slots.read slot).treatment = .altTile → appliedTreatment p slot =
      if (p.live.bindings.read slot).tileChoice = .itemTile ∧ (p.live.items.read n.val).soldOutTile.isSome then
        .altTile
      else .none) := by
  simp only [appliedTreatment, hitem, h, if_true, altTileShown_iff]
  refine ⟨fun he => by rw [he], fun he => by rw [he], fun he => by rw [he], fun he => ?_⟩
  simp only [he, true_and, and_comm]

end

/-! ## The records (R71, R119) -/

theorem settledRecord_invisible {p : Snapshot} {slot : Nat} (h : ¬ slotVisible p slot = true) :
    settledRecord p slot = { RenderRecord.initial with generation := p.live.generation } := if_neg h

theorem settledRecord_visible {p : Snapshot} {slot : Nat} (h : slotVisible p slot = true) :
    settledRecord p slot = { RenderRecord.initial with
      visible := true
      item := namedItem p slot
      tile := shownTile p slot
      applied := appliedTreatment p slot
      generation := p.live.generation } := if_pos h

/-- A group's member in the snapshot is its current one (R112, R118). -/
theorem takeSnapshot_member (s : State) (g : Fin 16) : (takeSnapshot s).members.read g.val =
    (s.setup.groups.read g.val).member (s.timeBase.runs.read g.val).index := by
  simp only [takeSnapshot, Table.read_ofFn, g.isLt, if_true, currentMember]

theorem namedItem_takeSnapshot (s : State) (slot : Nat) : namedItem (takeSnapshot s) slot =
    match (s.live.bindings.read slot).source with
    | .none => none
    | .item n => some n
    | .group g => some ((s.setup.groups.read g.val).member (s.timeBase.runs.read g.val).index) := by
  simp only [namedItem, takeSnapshot_member]
  rfl

theorem frameBoundary_frame (source : TimingSource) (s : State) {slot : Nat} (h : slot < 96) :
    (frameBoundary source s).engine.frame.read slot = settledRecord (takeSnapshot (frameBoundary source s)) slot := by
  rw [frameBoundary_engine]
  exact (Table.read_ofFn _ _ _).trans (if_pos h)

/-- Settles O36: each record is the one settled from the snapshot of the new frame. -/
theorem boundarySettlesRecords : Obligations.BoundarySettlesRecords := by
  intro source s slot hslot t b e item visible r
  have hitem : namedItem (takeSnapshot t) slot = item := namedItem_takeSnapshot t slot
  have hvisible : slotVisible (takeSnapshot t) slot = true ↔ visible := by rw [slotVisible_iff, hitem]; rfl
  have hrecord : r = settledRecord (takeSnapshot t) slot := frameBoundary_frame source s hslot
  have hengine : t.engine = _ := frameBoundary_engine source s
  refine ⟨fun hv => ?invisible, fun hv => ?visible, by rw [hengine], by rw [hengine]⟩
  case invisible =>
    rw [hrecord, settledRecord_invisible (mt hvisible.1 hv)]
    rfl
  case visible =>
    rw [hrecord, settledRecord_visible (hvisible.2 hv)]
    exact ⟨rfl, hitem, rfl, rfl, rfl, fun _ hchoice => shownTile_fixed hchoice,
      fun hchoice => shownTile_noTile hchoice,
      fun hchoice hnone => shownTile_noItem hchoice (hitem.trans hnone),
      fun _ hchoice hsome => shownTile_item hchoice (hitem.trans hsome),
      fun hnone => appliedTreatment_noItem (hitem.trans hnone),
      fun _ hsome =>
        ⟨appliedTreatment_notSoldOut (hitem.trans hsome), appliedTreatment_soldOut (hitem.trans hsome)⟩⟩

end Sys2Proof.Machine
end

section
/-! PROOFS. The bounds of the staging areas, of the clock and of the rotation groups (R74, R82, R88, R98, R105): each
block's own moves, then every row. -/

namespace Sys2Proof.Machine

open Sys2Proof.Laws.PacketRow (packet)

/-! ## The staging areas (R74, R82, R88) -/

theorem PoolBounded.of_stager_eq {s t : State} (h : PoolBounded s) (e : t.stager = s.stager) : PoolBounded t := by
  obtain ⟨records, batches, pairs⟩ := h
  constructor <;> rwa [e]

theorem PoolBounded.of_initial {s : State} (e : s.stager = Stager.initial) : PoolBounded s := by
  obtain ⟨hreset, -⟩ := resetIsLegal
  exact hreset.of_stager_eq e

theorem sealedRecords_append (a b : List Batch) : sealedRecords (a ++ b) = sealedRecords a + sealedRecords b := by
  induction a with
  | nil => exact (Nat.zero_add _).symm
  | cons x a ih => simp only [List.cons_append, sealedRecords, ih, Nat.add_assoc]

/-- A boundary takes batches from the head of the queue alone (R92). -/
theorem Stager.applied_suffix (g : Stager) (reading : Option Nat) (l : Live) :
    (g.applied reading l).1 <:+ g.sealed := by
  rw [Stager.applied_eq]
  split
  · exact List.suffix_refl _
  · exact List.dropWhile_suffix _

theorem PoolBounded.frameBoundary {s : State} (h : PoolBounded s) (source : TimingSource) :
    PoolBounded (frameBoundary source s) := by
  obtain ⟨records, batches, -⟩ := h
  have hleft := s.stager.applied_suffix (timeBaseBoundary s).timeBase.reading s.live
  have hstager : (Machine.frameBoundary source s).stager =
      { s.stager with
        sealed := (s.stager.applied (timeBaseBoundary s).timeBase.reading s.live).1, immediate := [] } :=
    frameBoundary_stager source s
  constructor <;> rw [hstager]
  · obtain ⟨gone, hgone⟩ := hleft
    rw [← hgone, sealedRecords_append] at records
    dsimp only
    omega
  · exact Nat.le_trans hleft.length_le batches
  · exact Nat.zero_le _

/-- Records that the pool has room for are staged (R79). -/
theorem PoolBounded.stage {s : State} (h : PoolBounded s) {records : List Change}
    (hroom : records.length ≤ s.stager.free) :
    PoolBounded (s.setStager { s.stager with openBatch := s.stager.openBatch ++ records }) := by
  have hpool := h.records
  refine { h with records := ?_ }
  simp only [Stager.free] at hroom
  simp only [State.setStager_stager, List.length_append]
  omega

/-- The records of a batch that is sealed stay in the pool (R82). -/
theorem PoolBounded.sealBatch {s : State} (h : PoolBounded s) (tag : Option Nat) (hqueue : s.stager.sealed.length < 4) :
    PoolBounded (s.setStager { s.stager with
      openBatch := [], sealed := s.stager.sealed ++ [⟨s.stager.openBatch, tag⟩] }) := by
  have hpool := h.records
  refine { h with records := ?_, batches := ?_ }
  · simp only [State.setStager_stager, sealedRecords_append, sealedRecords, List.length_nil]
    omega
  · simpa using hqueue

/-! ## The clock (R98) -/

theorem ClockLegal.of_clock_eq {s t : State} (h : ClockLegal s) (hset : t.timeBase.clockSet = s.timeBase.clockSet)
    (hseconds : t.timeBase.seconds = s.timeBase.seconds) (hmicros : t.timeBase.micros = s.timeBase.micros) :
    ClockLegal t := by
  obtain ⟨seconds, micros, unset⟩ := h
  constructor
  · rwa [hseconds]
  · rwa [hmicros]
  · rwa [hset, hseconds, hmicros]

/-- The seconds return to 0 at midnight, and a clock at rest stays as it is (R98). -/
theorem ClockLegal.advance {s : State} (h : ClockLegal s) (n : Nat) :
    ClockLegal (s.setTimeBase (s.timeBase.advance n)) := by
  cases hset : s.timeBase.clockSet with
  | false => exact h.of_clock_eq (by simp) (by simp [TimeBase.advance, hset]) (by simp [TimeBase.advance, hset])
  | true =>
    refine ⟨?_, ?_, fun hunset => by simp [hset] at hunset⟩ <;>
      simp only [State.setTimeBase_timeBase, TimeBase.advance, hset, if_true] <;> exact Nat.mod_lt _ (by decide)

/-! ## The rotation groups (R105) -/

/-- A runtime record within its group's entry: the index below the member count, the dwell count below the dwell
(R105). -/
structure GroupRun.Fits (r : GroupRun) (e : GroupEntry) : Prop where
  index : r.index < e.count
  count : r.count < e.dwell.toNat

theorem groupsLegal_iff {s : State} : GroupsLegal s ↔ ∀ g, (s.setup.groups.read g).Legal ∧
    (s.timeBase.runs.read g).Fits (s.setup.groups.read g) :=
  ⟨fun h g => ⟨⟨h.count g, h.dwell g⟩, h.index g, h.dwellCount g⟩,
    fun h => ⟨fun g => (h g).1.1, fun g => (h g).1.2, fun g => (h g).2.index, fun g => (h g).2.count⟩⟩

theorem GroupsLegal.entry {s : State} (h : GroupsLegal s) (g : Nat) : (s.setup.groups.read g).Legal :=
  (groupsLegal_iff.1 h g).1

theorem GroupsLegal.fits {s : State} (h : GroupsLegal s) (g : Nat) :
    (s.timeBase.runs.read g).Fits (s.setup.groups.read g) := (groupsLegal_iff.1 h g).2

theorem GroupsLegal.of_groups_eq {s t : State} (h : GroupsLegal s) (hgroups : t.setup.groups = s.setup.groups)
    (hruns : t.timeBase.runs = s.timeBase.runs) : GroupsLegal t := by
  rw [groupsLegal_iff] at h ⊢
  rwa [hgroups, hruns]

/-- Every group has a member and a dwell, so a record at its first member with no frame counted fits (R50). -/
theorem GroupRun.Fits.of_zero {r : GroupRun} {e : GroupEntry} (he : e.Legal) (hindex : r.index = 0)
    (hcount : r.count = 0) : r.Fits e :=
  ⟨by rw [hindex]; exact he.1.1, by rw [hcount]; exact he.2⟩

/-- A step goes to a member of the group and leaves the dwell count (R108, R109). -/
theorem GroupRun.Fits.stepRun {r : GroupRun} {e : GroupEntry} (h : r.Fits e) (items : Table Item.initial) :
    (stepRun items e r).Fits e := by
  obtain ⟨hindex, hcount⟩ := h
  unfold Machine.stepRun
  split
  · exact ⟨hindex, hcount⟩
  · split
    · split
      · rename_i i hfound
        refine ⟨?_, hcount⟩
        have hmem := List.mem_of_find?_eq_some hfound
        have hrange : i ∈ List.range e.count := by
          unfold candidates at hmem
          split at hmem
          · exact (List.mem_append.1 hmem).elim List.mem_of_mem_drop List.mem_of_mem_take
          · exact List.mem_of_mem_drop hmem
        exact List.mem_range.1 hrange
      · exact ⟨hindex, hcount⟩
    · split
      · exact ⟨by assumption, hcount⟩
      · exact ⟨Nat.zero_lt_of_lt hindex, hcount⟩

section
variable {s : State} (h : GroupsLegal s)
include h

/-- Records that fit their groups' entries take the place of the runtime records. -/
theorem GroupsLegal.setRuns {b : TimeBase} {f : Nat → GroupRun} (hruns : b.runs = Table.ofFn 16 f)
    (hf : ∀ g, (f g).Fits (s.setup.groups.read g)) : GroupsLegal (s.setTimeBase b) := by
  refine groupsLegal_iff.2 fun g => ⟨h.entry g, ?_⟩
  rw [State.setTimeBase_timeBase, hruns, Table.read_ofFn]
  split
  · exact hf g
  · exact .of_zero (h.entry g) rfl rfl

/-- A count that does not reach the dwell stays below it; one that does returns to 0 with the step (R107, R110). -/
theorem GroupsLegal.boundaryRun_fits (g : Nat) :
    (boundaryRun s.setup.groups s.live.items s.timeBase.runs g).Fits (s.setup.groups.read g) := by
  have hfits := h.fits g
  have moved : (movedRun s.setup.groups s.live.items s.timeBase.runs g).Fits (s.setup.groups.read g) := by
    unfold movedRun
    dsimp only
    split
    · split
      · split
        · exact ⟨(hfits.stepRun _).index, (h.entry g).2⟩
        · rename_i hdwell
          exact ⟨hfits.index, Nat.lt_of_le_of_ne hfits.count hdwell⟩
      · split
        · exact hfits.stepRun _
        · exact hfits
    · exact hfits
  exact ⟨moved.index, moved.count⟩

theorem GroupsLegal.timeBaseBoundary : GroupsLegal (timeBaseBoundary s) := h.setRuns rfl h.boundaryRun_fits

theorem GroupsLegal.frameBoundary (source : TimingSource) : GroupsLegal (frameBoundary source s) :=
  h.timeBaseBoundary.of_groups_eq (by rw [frameBoundary_setup]; rfl) (by rw [frameBoundary_timeBase])

/-- The step of a due group and of its followers (R107, R110). -/
theorem GroupsLegal.groupStep (g : Nat) : GroupsLegal (s.setTimeBase { s.timeBase with
    runs := groupStepRuns s.setup.groups s.live.items s.timeBase.runs g }) := by
  refine h.setRuns rfl fun f => ?_
  split
  · rename_i hf
    subst hf
    exact ⟨((h.fits f).stepRun _).index, (h.entry f).2⟩
  · split
    · exact (h.fits f).stepRun _
    · exact h.fits f

/-- A GROUPS entry is stored within its ranges, and its group's record is reset with it (R50, R105). -/
theorem GroupsLegal.writeGroup {index : Nat} {e : List Byte} {u : Setup}
    (hput : putEntry .groups index e s.setup = some u) : GroupsLegal (writeEffect .groups index (s.setSetup u)) := by
  obtain ⟨x, hx, rfl⟩ := Option.map_eq_some_iff.1 hput
  refine groupsLegal_iff.2 fun g => ?_
  show ((s.setup.groups.write index x).read g).Legal ∧
    ((s.timeBase.runs.write index (s.timeBase.runs.read index).restart).read g).Fits
      ((s.setup.groups.write index x).read g)
  rw [Table.read_write, Table.read_write]
  split
  · exact ⟨decodeGroup_legal hx, .of_zero (decodeGroup_legal hx) rfl rfl⟩
  · exact groupsLegal_iff.1 h g

end

/-- An entry of another table leaves the GROUPS entries (R40). -/
theorem putEntry_groups {table : TableId} (htable : table ≠ .groups) {index : Nat} {e : List Byte} {u v : Setup}
    (h : putEntry table index e u = some v) : v.groups = u.groups := by
  cases table with
  | groups => exact absurd rfl htable
  | fontMetrics =>
    simp only [putEntry] at h
    split at h
    · exact (Option.some.inj h) ▸ rfl
    · obtain ⟨_, -, rfl⟩ := Option.map_eq_some_iff.1 h
      rfl
  | glyphs font => exact (Option.some.inj h) ▸ rfl
  | canvas | heads | slots | formats | schedule | tiles =>
    obtain ⟨_, -, rfl⟩ := Option.map_eq_some_iff.1 h
    rfl
  | _ => cases h

/-! ## What the rows keep -/

/-- A change that keeps the staging areas, the clock and the rotation groups within their bounds. -/
structure BoundsGoOn (s t : State) : Prop where
  pool : PoolBounded s → PoolBounded t
  clock : ClockLegal s → ClockLegal t
  groups : GroupsLegal s → GroupsLegal t

namespace BoundsGoOn

theorem of_eq {s t : State} (hstager : t.stager = s.stager) (htimeBase : t.timeBase = s.timeBase)
    (hgroups : t.setup.groups = s.setup.groups) : BoundsGoOn s t :=
  ⟨(·.of_stager_eq hstager), (·.of_clock_eq (by rw [htimeBase]) (by rw [htimeBase]) (by rw [htimeBase])),
    (·.of_groups_eq hgroups (by rw [htimeBase]))⟩

theorem refl (s : State) : BoundsGoOn s s := ⟨id, id, id⟩

theorem trans {s u t : State} (h : BoundsGoOn s u) (h' : BoundsGoOn u t) : BoundsGoOn s t :=
  ⟨h'.pool ∘ h.pool, h'.clock ∘ h.clock, h'.groups ∘ h.groups⟩

/-- The Change Stager's own moves have to do with the pool alone. -/
theorem setStager {s : State} {g : Stager} (hpool : PoolBounded s → PoolBounded (s.setStager g)) :
    BoundsGoOn s (s.setStager g) := ⟨hpool, (·.of_clock_eq rfl rfl rfl), (·.of_groups_eq rfl rfl)⟩

/-- Runtime records that fit replace the records, the clock as it was. -/
theorem setRuns {s : State} {runs : Table GroupRun.initial}
    (hgroups : GroupsLegal s → GroupsLegal (s.setTimeBase { s.timeBase with runs := runs })) :
    BoundsGoOn s (s.setTimeBase { s.timeBase with runs := runs }) :=
  ⟨(·.of_stager_eq rfl), (·.of_clock_eq rfl rfl rfl), hgroups⟩

theorem frameBoundary (source : TimingSource) (s : State) : BoundsGoOn s (frameBoundary source s) := by
  have hclock : (Machine.frameBoundary source s).timeBase = (timeBaseBoundary s).timeBase :=
    frameBoundary_timeBase source s
  exact ⟨(·.frameBoundary source), (·.of_clock_eq (by rw [hclock]; rfl) (by rw [hclock]; rfl) (by rw [hclock]; rfl)),
    (·.frameBoundary source)⟩

/-- A frame begins after the receiver and the timing unit have moved. -/
theorem boundaryAfter {s u : State} (source : TimingSource) (hstager : u.stager = s.stager)
    (htimeBase : u.timeBase = s.timeBase) (hgroups : u.setup.groups = s.setup.groups) :
    BoundsGoOn s (Machine.frameBoundary source u) := (of_eq hstager htimeBase hgroups).trans (frameBoundary source u)

theorem endDrain (c : LoadChannel) (s : State) : BoundsGoOn s (endDrain c s) := by
  rw [endDrain_eq]
  exact of_eq rfl rfl rfl

/-! ### Packets -/

/-- One entry of a WRITE, with what it does beside its table (R40, R50). -/
theorem writeEntry {table : TableId} {index : Nat} {e : List Byte} {s : State} {u : Setup}
    (hput : putEntry table index e s.setup = some u) : BoundsGoOn s (writeEffect table index (s.setSetup u)) := by
  rcases writeEffect_cases table index (s.setSetup u) with ⟨rfl, heffect⟩ | ⟨rfl, heffect⟩ | ⟨htable, -, heffect⟩
  · refine ⟨?_, ?_, (·.writeGroup hput)⟩ <;> rw [heffect]
    · exact (·.of_stager_eq rfl)
    · exact (·.of_clock_eq rfl rfl rfl)
  · rw [heffect]
    exact of_eq rfl rfl (putEntry_groups (by decide) hput)
  · rw [heffect]
    exact of_eq rfl rfl (putEntry_groups htable hput)

theorem write (payload : List Byte) (s : State) : BoundsGoOn s (write payload s) := by
  rcases write_cases payload s with ⟨code, e⟩ | ⟨c, -, -, -, hw⟩
  · rw [e]
    exact of_eq rfl rfl rfl
  · have entries : BoundsGoOn s (placeCursor c.table (writeEntries c.table
        (chunks c.table.entryBytes (payload.length / c.table.entryBytes) payload) c.index s)) := by
      refine (writeEntries_keeps (P := fun _ t => BoundsGoOn s t) ?_ _ _ _ (refl s)).trans (of_eq rfl rfl rfl)
      exact fun _ _ _ _ hu _ hput => hu.trans (writeEntry hput)
    rcases hw with e | ⟨code, e⟩ <;> rw [e]
    · exact entries
    · exact entries.trans (of_eq rfl rfl rfl)

/-- A soft reset empties the staging areas and leaves the clock and the groups (R16, R97). -/
theorem softResetBlocks (s : State) : BoundsGoOn s (softResetBlocks s) := by
  refine ⟨fun _ => .of_initial (softResetBlocks_stager s), fun h => ?_, fun h => ?_⟩
  · exact h.of_clock_eq (by simp) (by simp) (by simp)
  · exact h.of_groups_eq (by simp) (by simp)

theorem ownerActs (kind : PacketKind) (broadcast : Bool) (payload : List Byte) (s : State) :
    BoundsGoOn s (ownerActs kind broadcast payload s) := by
  have pictures (p : Pictures) : BoundsGoOn s (s.setPictures p) := of_eq rfl rfl rfl
  refine ownerActs_keeps broadcast payload (refl s) (fun u code kind h => h.trans (of_eq rfl rfl rfl)) ?select
    (.write payload s) ?query ?stage ?sealing (setStager fun h => ?discard) (setStager fun h => ?drop)
    (fun flag => setStager fun h => { h with }) ?status ?time ?restart ?opening ?data ?ending ?abort ?node
    (of_eq rfl rfl rfl) (softResetBlocks s) kind
  case select => intro t h; obtain ⟨_, -, rfl⟩ := select_ok h; exact of_eq rfl rfl rfl
  case query => intro t h; obtain ⟨-, rfl | ⟨_, rfl⟩⟩ := query_ok h <;> exact of_eq rfl rfl rfl
  case stage => intro t h; obtain ⟨_, hroom, rfl⟩ := stage_ok h; exact setStager (·.stage hroom)
  case sealing => intro t h; obtain ⟨tag, -, hqueue, rfl⟩ := sealBatch_ok h; exact setStager (·.sealBatch tag hqueue)
  case discard => exact { h with records := Nat.le_trans (Nat.add_le_add_right (Nat.zero_le _) _) h.records }
  case drop =>
    exact { h with
      records := Nat.le_trans (Nat.add_le_add_left (Nat.zero_le _) _) h.records
      batches := Nat.zero_le _ }
  case status =>
    intro t h
    obtain ⟨_, hroom, rfl⟩ := statusNow_ok h
    exact setStager fun h => { h with pairs := by simpa using hroom }
  case time =>
    intro t h
    obtain ⟨-, rfl⟩ | ⟨-, _, _, hseconds, hmicros, rfl⟩ := setTime_ok h
    · exact refl _
    · exact ⟨(·.of_stager_eq rfl), fun _ => ⟨hseconds, hmicros, fun hunset => by cases hunset⟩,
        (·.of_groups_eq rfl rfl)⟩
  case restart =>
    intro t h
    obtain ⟨p, rfl⟩ := groupRestart_ok h
    refine setRuns fun hg => hg.setRuns rfl fun g => ?_
    split
    · exact .of_zero (hg.entry g) rfl rfl
    · exact hg.fits g
  case opening => intro t h; obtain ⟨_, _, _, -, -, -, -, rfl⟩ := loadOpen_ok h; exact pictures _
  case data => intro t h; obtain ⟨_, -, -, rfl⟩ := loadData_ok h; exact (pictures _).trans (.endDrain _ _)
  case ending => intro t h; obtain ⟨_, -, rfl⟩ := loadEnd_ok h; exact (pictures _).trans (.endDrain _ _)
  case abort =>
    intro t h
    obtain rfl | ⟨_, -, rfl⟩ := loadAbort_ok h
    · exact refl _
    · exact pictures _
  case node => intro t h; obtain ⟨_, -, rfl⟩ := setNode_ok h; exact of_eq rfl rfl rfl

/-! ### Every row -/

/-- A reset of the whole part puts the three blocks as they are right after power-on (R53, R97, R116). -/
theorem of_reset {s t : State} (hstager : t.stager = Stager.initial) (htimeBase : t.timeBase = TimeBase.initial)
    (hgroups : t.setup.groups = .empty) : BoundsGoOn s t := by
  obtain ⟨-, hclock, -⟩ := resetIsLegal
  have reset : BoundsGoOn State.reset t := of_eq hstager htimeBase hgroups
  exact ⟨fun _ => .of_initial hstager, fun _ => reset.clock hclock, fun _ => reset.groups reset_groupsLegal⟩

theorem grant {check : ReadCheck} {s t : State} (h : exec (.grant check) s = .next t) : BoundsGoOn s t := by
  rcases execGrant_cases check s with ⟨-, e⟩ | ⟨-, e⟩ | ⟨c, -, e⟩ <;> rw [e] at h
  · cases h; exact refl s
  · rcases readBurst_cases check (s.setArbiter (windowAfter s false)) with
      ⟨-, e⟩ | ⟨_, _, -, ⟨-, e⟩ | ⟨-, ⟨-, e⟩ | ⟨-, e⟩ | ⟨-, e⟩⟩⟩ <;> rw [e] at h <;> cases h
    all_goals exact of_eq rfl rfl rfl
  · rcases writeBurst_cases c (s.setArbiter (windowAfter s true)) with ⟨-, e⟩ | ⟨_, _, -, ⟨-, e⟩ | ⟨-, e⟩⟩ <;>
      rw [e] at h <;> cases h
    · exact of_eq rfl rfl rfl
    · refine BoundsGoOn.trans ?_ (.endDrain c _)
      exact of_eq (by simp) (by simp) (by simp)

theorem lineOutputStart {input : List Rgb} {s t : State} (h : exec (.lineOutputStart input) s = .next t) :
    BoundsGoOn s t := by
  replace h : execLineOutputStart input s = .next t := h
  rcases execLineOutputStart_cases input s with ⟨-, e⟩ | ⟨-, e⟩ | e <;> rw [e] at h <;> cases h
  · rw [fetchLine_eq, composeLine_eq]
    exact of_eq rfl rfl rfl
  · exact of_eq rfl rfl rfl
  · exact refl s

theorem carrierLine {pixels : List Rgb} {s t : State} (h : exec (.carrierLine pixels) s = .next t) : BoundsGoOn s t :=
  carrierLine_keeps (P := BoundsGoOn s) (fun _ _ hu => hu.trans (of_eq rfl rfl rfl))
    (fun _ hu => hu.trans (of_eq rfl rfl rfl))
    (fun kind broadcast payload _ hu => hu.trans (ownerActs kind broadcast payload _)) (refl s) h

theorem clockAdvance (micros : Nat) (s : State) : BoundsGoOn s ((s.setNow (s.now + micros)).setTimeBase
    (if s.timing.inReset then s.timeBase else s.timeBase.advance micros)) := by
  split
  · exact of_eq rfl rfl rfl
  · exact ⟨(·.of_stager_eq rfl), fun h => (h.advance micros).of_clock_eq rfl rfl rfl,
      (·.of_groups_eq rfl (TimeBase.advance_runs _ _))⟩

/-- Every row keeps the staging areas, the clock and the rotation groups within their bounds. -/
theorem exec {c : Instr} {s t : State} (h : exec c s = .next t) : BoundsGoOn s t := by
  cases hp : packet c with
  | some q =>
    obtain ⟨kind, broadcast, payload⟩ := q
    rw [exec_of_packet hp] at h
    cases h
    exact ownerActs kind broadcast payload s
  | none =>
    cases c with
    | powerOn straps => cases h; exact of_reset rfl rfl rfl
    | boardReset straps => cases h; exact of_reset rfl rfl rfl
    | carrierLine pixels => exact carrierLine h
    | badKind kind => cases h; exact of_eq rfl rfl rfl
    | resetComplete =>
      rcases exec_resetComplete_cases s with e | ⟨-, e⟩ <;> rw [e] at h <;> cases h
      · exact refl s
      · exact boundaryAfter _ rfl rfl rfl
    | firstActiveLine width =>
      cases h
      split
      · unfold blankFrame
        split <;> exact of_eq rfl rfl rfl
      · exact refl s
    | inputFrameStart a b =>
      rcases exec_inputFrameStart_cases a b s with e | ⟨_, e⟩ | ⟨source, timing, e⟩ <;> rw [e] at h <;> cases h
      · exact refl s
      · exact of_eq rfl rfl rfl
      · exact boundaryAfter _ rfl rfl rfl
    | inputTimeout =>
      rcases exec_inputTimeout_cases s with e | ⟨-, ⟨-, e⟩ | ⟨-, e⟩⟩ <;> rw [e] at h <;> cases h
      · exact refl s
      · exact of_eq rfl rfl rfl
      · exact boundaryAfter _ rfl rfl rfl
    | generatorFrameEnd =>
      rcases exec_generatorFrameEnd_cases s with e | ⟨-, _, -, e⟩ <;> rw [e] at h <;> cases h
      · exact refl s
      · exact frameBoundary _ s
    | groupStep g =>
      cases h
      split
      · exact setRuns (·.groupStep g.val)
      · exact refl s
    | clockAdvance micros => cases h; exact clockAdvance micros s
    | lineOutputStart input => exact lineOutputStart h
    | grant check => exact grant h
    | drainEnd channel => cases h; exact endDrain channel s
    | stallAbort channel => cases h; exact of_eq rfl rfl rfl
    | completionEvent => cases h; split <;> exact of_eq rfl rfl rfl
    | lineFetchComplete => cases h; exact of_eq rfl rfl rfl
    | windowClose => cases h; exact of_eq rfl rfl rfl
    | replyStart readings =>
      replace h : execReplyStart readings s = .next t := h
      rcases execReplyStart_cases readings s with e | ⟨_, _, _, _, _, -, -, ⟨-, -, e⟩ | e⟩ <;>
        rw [e] at h <;> cases h <;> exact of_eq rfl rfl rfl
    | replyTimeout => cases h; split <;> [split; skip] <;> exact of_eq rfl rfl rfl
    | collision => cases h; split <;> [split; skip] <;> exact of_eq rfl rfl rfl
    | replyEnd => cases h; split <;> [split; skip] <;> exact of_eq rfl rfl rfl
    | _ => simp [packet] at hp

end BoundsGoOn

/-- Settles O8: a boundary takes batches away and moves the groups within their members, each packet has its own test
of the room, and no other row but the passing of time has a part in it. -/
theorem stagerClockGroupsKept : Obligations.StagerClockGroupsKept :=
  ⟨step_keeps (fun _ _ h => h.of_stager_eq rfl) fun _ _ _ h he => (BoundsGoOn.exec he).pool h,
    step_keeps (fun _ _ h => h.of_clock_eq rfl rfl rfl) fun _ _ _ h he => (BoundsGoOn.exec he).clock h,
    step_keeps (fun _ _ h => h.of_groups_eq rfl rfl) fun _ _ _ h he => (BoundsGoOn.exec he).groups h⟩

end Sys2Proof.Machine
end

section
/-! PROOFS. SEAL, DISCARD_OPEN, DROP_SEALED, HOLD and RELEASE: the order of a SEAL's checks, and the packets without a
payload (R81, R82, R84 to R86). -/

namespace Sys2Proof.Machine

/-! ## SEAL (R81, R82) -/

theorem exec_sealBatch (payload : List Byte) (s : State) :
    exec (.sealBatch payload) s = .next (settle .sealBatch s (sealBatch payload s)) := rfl

/-- A tag is out of range from 86400 on, but for NOW (R81). -/
theorem applyTag_eq_none {n : Nat} (hday : 86400 ≤ n) (hnow : n ≠ 0xFFFFFFFF) : applyTag n = none := by
  rw [applyTag, if_neg hnow, if_neg (Nat.not_lt.2 hday)]

theorem applyTag_of_legal {n : Nat} (h : n < 86400 ∨ n = 0xFFFFFFFF) :
    applyTag n = some (if n = 0xFFFFFFFF then none else some n) := by
  unfold applyTag
  split
  · rfl
  · rename_i hnow
    rw [if_pos (h.resolve_right hnow)]

theorem sealOutcome : Claims.SealOutcome := by
  intro payload s
  simp only [exec_sealBatch, sealBatch]
  refine ⟨fun hlen => ?length, fun hlen hday hnow => ?tag, fun hlen htag => ?sealing⟩
  case length => rw [if_pos hlen, settle_error]
  case tag => rw [if_neg (not_not.2 hlen), applyTag_eq_none hday hnow, settle_error]
  case sealing =>
    rw [if_neg (not_not.2 hlen), applyTag_of_legal htag]
    dsimp only
    split
    · rw [settle_error]
    · split
      · rw [settle_error]
      · rw [settle_ok]
        rfl

/-! ## Packets without a payload (R84 to R86) -/

theorem needsEmpty_nil (t : State) : needsEmpty [] t = .ok t := rfl

theorem needsEmpty_bytes {payload : List Byte} (h : payload ≠ []) (t : State) :
    needsEmpty payload t = .error .badLength := if_neg h

section
variable (payload : List Byte) (s : State)

theorem exec_discardOpen : exec (.discardOpen payload) s =
    .next (settle .discardOpen s (needsEmpty payload (s.setStager { s.stager with openBatch := [] }))) := rfl

theorem exec_dropSealed : exec (.dropSealed payload) s =
    .next (settle .dropSealed s (needsEmpty payload (s.setStager { s.stager with sealed := [] }))) := rfl

theorem exec_hold : exec (.hold payload) s =
    .next (settle .hold s (needsEmpty payload (s.setStager { s.stager with hold := true }))) := rfl

theorem exec_release : exec (.release payload) s =
    .next (settle .release s (needsEmpty payload (s.setStager { s.stager with hold := false }))) := rfl

end

theorem emptyPayloadPackets : Claims.EmptyPayloadPackets := by
  refine ⟨fun s => ?_, fun payload s hbytes => ?_⟩
  · simp only [exec_discardOpen, exec_dropSealed, exec_hold, exec_release, needsEmpty_nil, settle_ok]
    exact ⟨rfl, rfl, rfl, rfl⟩
  · simp only [exec_discardOpen, exec_dropSealed, exec_hold, exec_release, needsEmpty_bytes hbytes, settle_error,
      and_self]

/-- Settles O27: SEAL by its checks in their order, the other four by their empty payload. -/
theorem sealAndQueue : Obligations.SealAndQueue := ⟨sealOutcome, emptyPayloadPackets⟩

end Sys2Proof.Machine
end

section
/-! PROOFS. STAGE and STATUS_NOW: a payload as its parts, and the checks in their order (R74, R79, R87). -/

namespace Sys2Proof.Machine

/-! ## A payload as its parts -/

/-- Parts of one size, one behind the other, are the whole chunks of their bytes. -/
theorem chunks_flatten {size : Nat} (hpos : 0 < size) {parts : List (List Byte)}
    (hparts : ∀ r ∈ parts, r.length = size) :
    parts.flatten.length = size * parts.length ∧
    chunks size (parts.flatten.length / size) parts.flatten = parts := by
  induction parts with
  | nil => exact ⟨rfl, by simp [chunks]⟩
  | cons r parts ih =>
    obtain ⟨hr, hrest⟩ := List.forall_mem_cons.1 hparts
    obtain ⟨hlength, hchunks⟩ := ih hrest
    rw [List.flatten_cons]
    refine ⟨?_, ?_⟩
    · rw [List.length_append, hr, hlength, List.length_cons, Nat.mul_succ, Nat.add_comm]
    · rw [(chunks_cons_entry hpos hr _).2, hchunks]

/-- Whole multiples of a size fall into parts of that size. -/
theorem exists_parts {size n : Nat} {bytes : List Byte} (h : bytes.length = size * n) :
    ∃ parts : List (List Byte), (∀ r ∈ parts, r.length = size) ∧ parts.flatten = bytes := by
  induction n generalizing bytes with
  | zero => exact ⟨[], by simp, (List.length_eq_zero_iff.1 h).symm⟩
  | succ n ih =>
    rw [Nat.mul_succ] at h
    obtain ⟨parts, hparts, hflat⟩ := ih (bytes := bytes.drop size) (by rw [List.length_drop]; omega)
    refine ⟨bytes.take size :: parts, List.forall_mem_cons.2 ⟨by rw [List.length_take]; omega, hparts⟩, ?_⟩
    rw [List.flatten_cons, hflat, List.take_append_drop]

/-- A part among others of its size is one of the parts of the whole. -/
theorem exists_parts_mem {size : Nat} {before r after : List Byte} (hbefore : before.length % size = 0)
    (hr : r.length = size) (hafter : after.length % size = 0) :
    ∃ parts : List (List Byte), (∀ p ∈ parts, p.length = size) ∧ r ∈ parts ∧ parts.flatten = before ++ r ++ after := by
  obtain ⟨front, hfront, rfl⟩ := exists_parts (Nat.eq_mul_of_div_eq_right (Nat.dvd_of_mod_eq_zero hbefore) rfl)
  obtain ⟨back, hback, rfl⟩ := exists_parts (Nat.eq_mul_of_div_eq_right (Nat.dvd_of_mod_eq_zero hafter) rfl)
  refine ⟨front ++ r :: back, ?_, by simp, by simp⟩
  simp only [List.forall_mem_append, List.forall_mem_cons]
  exact ⟨hfront, hr, hback⟩

/-! ## Every part's reading -/

theorem allOf_eq_none {α β : Type} {f : α → Option β} {l : List α} (h : ∃ x ∈ l, f x = none) : allOf f l = none := by
  induction l with
  | nil => simp at h
  | cons x l ih =>
    unfold allOf
    rcases (List.exists_mem_cons_iff _ _ _).1 h with hx | hrest
    · rw [hx]
    · rw [ih hrest]
      cases f x <;> rfl

theorem allOf_eq_some {α β : Type} {f : α → Option β} {l : List α} {m : List β} (h : l.map f = m.map some) :
    allOf f l = some m := by
  induction l generalizing m with
  | nil =>
    obtain rfl := List.map_eq_nil_iff.1 h.symm
    rfl
  | cons x l ih =>
    cases m with
    | nil => cases h
    | cons y m =>
      obtain ⟨hx, hrest⟩ := List.cons.inj h
      rw [allOf, hx, ih hrest]

/-! ## STAGE (R74, R79) -/

theorem exec_stage (payload : List Byte) (s : State) :
    exec (.stage payload) s = .next (settle .stage s (stage payload s)) := rfl

section
variable {parts : List (List Byte)} (hparts : ∀ r ∈ parts, r.length = 16) (s : State)
include hparts

/-- One bad record makes a STAGE bad, whatever room the pool has (R79). -/
theorem stage_flatten_bad {r : List Byte} (hmem : r ∈ parts) (hbad : parseChange r = none) :
    stage parts.flatten s = .error .badField := by
  obtain ⟨hlength, hchunks⟩ := chunks_flatten (by decide) hparts
  have hpos := List.length_pos_of_mem hmem
  rw [stage, if_neg (by omega), hchunks, allOf_eq_none ⟨r, hmem, hbad⟩]

/-- Good records are staged in payload order where the pool has room for all (R74, R79). -/
theorem stage_flatten_good (hne : parts ≠ []) {records : List Change}
    (hrecords : parts.map parseChange = records.map some) : stage parts.flatten s =
      if s.stager.free < records.length then .error .poolFull
      else .ok (s.setStager { s.stager with openBatch := s.stager.openBatch ++ records }) := by
  obtain ⟨hlength, hchunks⟩ := chunks_flatten (by decide) hparts
  have hpos := List.length_pos_iff.2 hne
  rw [stage, if_neg (by omega), hchunks, allOf_eq_some hrecords]

end

theorem stageOutcome : Claims.StageOutcome := by
  simp only [Claims.StageOutcome, exec_stage]
  refine ⟨fun payload s hlen => ?length, fun before r after s hbefore hr hafter hbad => ?bad,
    fun parts records s hne hparts hrecords => ?staging⟩
  case length => rw [stage, if_pos hlen, settle_error]
  case bad =>
    obtain ⟨parts, hparts, hmem, hflat⟩ := exists_parts_mem hbefore hr hafter
    rw [← hflat, stage_flatten_bad hparts s hmem hbad, settle_error]
  case staging =>
    have hpos := List.length_pos_iff.2 hne
    have hcount : parts.length = records.length := by simpa using congrArg List.length hrecords
    rw [stage_flatten_good hparts s hne hrecords]
    have hroom : s.stager.free < records.length ↔
        128 < s.stager.openBatch.length + sealedRecords s.stager.sealed + records.length := by
      unfold Stager.free
      omega
    simp only [hroom]
    split
    · rw [settle_error]
    · rw [settle_ok]
      rfl

/-! ## STATUS_NOW (R87) -/

theorem Status.ofNumber_eq_some {n : Nat} {a : Status} : Status.ofNumber n = some a ↔ a.number = n := by
  match n with
  | 0 | 1 | 2 | n + 3 => cases a <;> simp [ofNumber, number]

theorem Status.ofNumber_eq_none {n : Nat} : Status.ofNumber n = none ↔ 2 < n := by
  match n with
  | 0 | 1 | 2 | n + 3 => simp [ofNumber]

theorem parsePair_eq_some {r : List Byte} {p : Fin 1024 × Status} : parsePair r = some p ↔
    p.1.val = field r 0 2 ∧ p.2.number = (byteAt r 2).toNat := by
  simp only [parsePair, Option.bind_eq_bind, Option.bind_eq_some_iff, finOf_eq_some, Status.ofNumber_eq_some,
    Option.pure_def, Option.some.injEq]
  exact ⟨fun ⟨_, hitem, _, hstatus, hp⟩ => hp ▸ ⟨hitem, hstatus⟩, fun ⟨hitem, hstatus⟩ => ⟨_, hitem, _, hstatus, rfl⟩⟩

theorem parsePair_eq_none {r : List Byte} : parsePair r = none ↔ 1023 < field r 0 2 ∨ 2 < (byteAt r 2).toNat := by
  refine (bind_eq_none_or fun item => bind_pure_eq_none).trans ?_
  simp only [finOf_eq_none, Status.ofNumber_eq_none, Nat.lt_iff_add_one_le]

theorem exec_statusNow (payload : List Byte) (s : State) :
    exec (.statusNow payload) s = .next (settle .statusNow s (statusNow payload s)) := rfl

section
variable {parts : List (List Byte)} (hparts : ∀ r ∈ parts, r.length = 4) (hmany : parts.length ≤ 16) (s : State)
include hparts hmany

/-- One bad pair makes a STATUS_NOW bad, whatever room the list has (R87). -/
theorem statusNow_flatten_bad {r : List Byte} (hmem : r ∈ parts) (hbad : parsePair r = none) :
    statusNow parts.flatten s = .error .badField := by
  obtain ⟨hlength, hchunks⟩ := chunks_flatten (by decide) hparts
  have hpos := List.length_pos_of_mem hmem
  rw [statusNow, if_neg (by omega), hchunks, allOf_eq_none ⟨r, hmem, hbad⟩]

/-- Good pairs join the immediate-status list in payload order where it has room for all (R87). -/
theorem statusNow_flatten_good (hne : parts ≠ []) {pairs : List (Fin 1024 × Status)}
    (hpairs : parts.map parsePair = pairs.map some) : statusNow parts.flatten s =
      if 32 - pairs.length < s.stager.immediate.length then .error .queueFull
      else .ok (s.setStager { s.stager with immediate := s.stager.immediate ++ pairs }) := by
  obtain ⟨hlength, hchunks⟩ := chunks_flatten (by decide) hparts
  have hpos := List.length_pos_iff.2 hne
  rw [statusNow, if_neg (by omega), hchunks, allOf_eq_some hpairs]

end

theorem statusNowOutcome : Claims.StatusNowOutcome := by
  simp only [Claims.StatusNowOutcome, exec_statusNow]
  refine ⟨fun payload s hlen => ?length, fun before r after s hbefore hr hafter hmany hbad => ?bad,
    fun parts pairs s hne hmany hparts hpairs => ?appending⟩
  case length => rw [statusNow, if_pos hlen, settle_error]
  case bad =>
    obtain ⟨parts, hparts, hmem, hflat⟩ := exists_parts_mem hbefore hr hafter
    obtain ⟨hlength, -⟩ := chunks_flatten (by decide) hparts
    rw [← hflat] at hmany ⊢
    rw [statusNow_flatten_bad hparts (by omega) s hmem (parsePair_eq_none.2 hbad), settle_error]
  case appending =>
    have hcount : parts.length = pairs.length := by simpa using congrArg List.length hpairs
    rw [statusNow_flatten_good hparts hmany s hne hpairs]
    have hroom : 32 - pairs.length < s.stager.immediate.length ↔
        32 < s.stager.immediate.length + pairs.length := by omega
    simp only [hroom]
    split
    · rw [settle_error]
    · rw [settle_ok]
      rfl

/-- Settles O28: a payload is its parts, read in order; the tests follow one another as the packet's rule has them. -/
theorem stageAndStatusNow : Obligations.StageAndStatusNow := ⟨stageOutcome, statusNowOutcome⟩

end Sys2Proof.Machine
end

section
/-! PROOFS. Change records and status pairs: which are bad, what a good one says, that one is read back as its change,
and what it sets (R75 to R78, R87, R88). -/

namespace Sys2Proof.Machine

/-! ## Fields of a change record (R76 to R78) -/

theorem price_number_lt (p : Option Price) : (p.map Fin.val).getD 0xFFFFFF < 256 ^ 3 := by
  cases p with
  | none => decide
  | some price => exact Nat.lt_trans price.isLt (by decide)

/-- NO_PRICE is no price's number (R76). -/
theorem price_none_iff {p : Option Price} : p = none ↔ (p.map Fin.val).getD 0xFFFFFF = 0xFFFFFF := by
  cases p with
  | none => simp
  | some price =>
    have := price.isLt
    simp
    omega

theorem priceField_eq_some {n : Nat} {p : Option Price} :
    priceField n = some p ↔ (p.map Fin.val).getD 0xFFFFFF = n := by
  unfold priceField
  split
  · rename_i hn
    rw [hn, ← price_none_iff, Option.some.injEq, eq_comm]
  · cases p with
    | none => simp; omega
    | some price => simp

theorem priceField_eq_none {n : Nat} : priceField n = none ↔ 99999 < n ∧ n ≠ 0xFFFFFF := by
  unfold priceField
  split
  · simp [*]
  · simp only [Option.map_eq_none_iff, finOf_eq_none]
    omega

/-- A modifier by its kind and value; NONE takes any value (R77). -/
theorem modifierField_eq_some {kind value : Nat} {m : Modifier} : modifierField kind value = some m ↔
    m.kindNumber = kind ∧ (m ≠ .none → m.value = value) := by
  match kind with
  | 0 | 1 | 2 | 3 | n + 4 => cases m <;> simp [modifierField, Modifier.kindNumber, Modifier.value]

theorem modifierField_eq_none {kind value : Nat} : modifierField kind value = none ↔
    3 < kind ∨ (kind = 1 ∧ 1000 < value) ∨ (2 ≤ kind ∧ 99999 < value) := by
  match kind with
  | 0 | 1 | 2 | 3 | n + 4 => simp [modifierField, Nat.lt_iff_add_one_le]

/-- A source by its kind and number; NONE takes any number (R78). -/
theorem sourceField_eq_some {kind number : Nat} {x : Source} : sourceField kind number = some x ↔
    x.kindNumber = kind ∧ (x ≠ .none → x.number = number) := by
  match kind with
  | 0 | 1 | 2 | n + 3 => cases x <;> simp [sourceField, Source.kindNumber, Source.number]

theorem sourceField_eq_none {kind number : Nat} : sourceField kind number = none ↔
    2 < kind ∨ (kind = 1 ∧ 1023 < number) ∨ (kind = 2 ∧ 15 < number) := by
  match kind with
  | 0 | 1 | 2 | n + 3 => simp [sourceField, Nat.lt_iff_add_one_le]

/-- A tile choice by its kind, FIXED with its tile (R78). -/
theorem tileChoiceField_eq_some {kind : Nat} {tile : Byte} {x : TileChoice} : tileChoiceField kind tile = some x ↔
    x.kindNumber = kind ∧ ∀ t, x = .fixed t → t = tile := by
  match kind with
  | 0 | 1 | 2 | n + 3 => cases x <;> simp [tileChoiceField, TileChoice.kindNumber, eq_comm]

theorem tileChoiceField_eq_none {kind : Nat} {tile : Byte} : tileChoiceField kind tile = none ↔ 2 < kind := by
  match kind with
  | 0 | 1 | 2 | n + 3 => simp [tileChoiceField]

/-! ## The three kinds (R75) -/

section
variable {r : List Byte} {c : Change}

theorem parseChange_price (h : (byteAt r 0).toNat = 1) : parseChange r = parsePrice r := by simp only [parseChange, h]
theorem parseChange_item (h : (byteAt r 0).toNat = 2) : parseChange r = parseItem r := by simp only [parseChange, h]
theorem parseChange_bind (h : (byteAt r 0).toNat = 3) : parseChange r = parseBind r := by simp only [parseChange, h]

theorem parseChange_unknown (h : (byteAt r 0).toNat ∉ [1, 2, 3]) : parseChange r = none := by
  unfold parseChange
  split <;> simp_all

theorem parsePrice_eq_some : parsePrice r = some c ↔ ∃ book item entry, c = .price book item entry ∧
    book.val = (byteAt r 1).toNat ∧ item.val = field r 2 2 ∧ (entry.map Fin.val).getD 0xFFFFFF = field r 4 3 := by
  simp only [parsePrice, Option.bind_eq_bind, Option.bind_eq_some_iff, finOf_eq_some, priceField_eq_some,
    Option.pure_def, Option.some.injEq]
  exact ⟨fun ⟨_, hbook, _, hitem, _, hentry, hc⟩ => ⟨_, _, _, hc.symm, hbook, hitem, hentry⟩,
    fun ⟨_, _, _, hc, hbook, hitem, hentry⟩ => ⟨_, hbook, _, hitem, _, hentry, hc.symm⟩⟩

theorem parsePrice_eq_none : parsePrice r = none ↔
    3 < (byteAt r 1).toNat ∨ 1023 < field r 2 2 ∨ (99999 < field r 4 3 ∧ field r 4 3 ≠ 0xFFFFFF) := by
  refine (bind_eq_none_or fun book => bind_eq_none_or fun item => bind_pure_eq_none).trans ?_
  simp only [finOf_eq_none, priceField_eq_none, Nat.lt_iff_add_one_le]

theorem parseItem_eq_some : parseItem r = some c ↔ ∃ item x, c = .item item x ∧ item.val = field r 2 2 ∧
    x.status.number = (byteAt r 4).toNat ∧ x.modifier.kindNumber = (byteAt r 5).toNat ∧
    (x.modifier ≠ .none → x.modifier.value = field r 6 3) ∧
    x.tile = optionalTile ((byteAt r 11).getLsbD 0) (byteAt r 9) ∧
    x.soldOutTile = optionalTile ((byteAt r 11).getLsbD 1) (byteAt r 10) := by
  simp only [parseItem, Option.bind_eq_bind, Option.bind_eq_some_iff, finOf_eq_some, Status.ofNumber_eq_some,
    modifierField_eq_some, Option.pure_def, Option.some.injEq]
  constructor
  · rintro ⟨_, hitem, _, hstatus, _, ⟨hkind, hvalue⟩, rfl⟩
    exact ⟨_, _, rfl, hitem, hstatus, hkind, hvalue, rfl, rfl⟩
  · rintro ⟨_, ⟨_, _, _, _⟩, rfl, hitem, hstatus, hkind, hvalue, htile, hsold⟩
    refine ⟨_, hitem, _, hstatus, _, ⟨hkind, hvalue⟩, ?_⟩
    rw [← htile, ← hsold]

theorem parseItem_eq_none : parseItem r = none ↔
    1023 < field r 2 2 ∨ 2 < (byteAt r 4).toNat ∨ 3 < (byteAt r 5).toNat ∨
    ((byteAt r 5).toNat = 1 ∧ 1000 < field r 6 3) ∨ (2 ≤ (byteAt r 5).toNat ∧ 99999 < field r 6 3) := by
  refine (bind_eq_none_or fun item => bind_eq_none_or fun status => bind_pure_eq_none).trans ?_
  simp only [finOf_eq_none, Status.ofNumber_eq_none, modifierField_eq_none, Nat.lt_iff_add_one_le]

theorem parseBind_eq_some : parseBind r = some c ↔ ∃ slot b, c = .bind slot b ∧ slot.val = field r 2 2 ∧
    bit b.active = (byteAt r 4).toNat ∧ b.source.kindNumber = (byteAt r 5).toNat ∧
    (b.source ≠ .none → b.source.number = field r 6 2) ∧ b.tileChoice.kindNumber = (byteAt r 8).toNat ∧
    ∀ t, b.tileChoice = .fixed t → t = byteAt r 9 := by
  simp only [parseBind, Option.bind_eq_bind, Option.bind_eq_some_iff, finOf_eq_some, yesNo_eq_some,
    sourceField_eq_some, tileChoiceField_eq_some, Option.pure_def, Option.some.injEq]
  constructor
  · rintro ⟨_, hslot, _, hactive, _, ⟨hkind, hnumber⟩, _, ⟨hchoice, htile⟩, rfl⟩
    exact ⟨_, _, rfl, hslot, hactive, hkind, hnumber, hchoice, htile⟩
  · rintro ⟨_, _, rfl, hslot, hactive, hkind, hnumber, hchoice, htile⟩
    exact ⟨_, hslot, _, hactive, _, ⟨hkind, hnumber⟩, _, ⟨hchoice, htile⟩, rfl⟩

theorem parseBind_eq_none : parseBind r = none ↔
    95 < field r 2 2 ∨ 1 < (byteAt r 4).toNat ∨ 2 < (byteAt r 5).toNat ∨
    ((byteAt r 5).toNat = 1 ∧ 1023 < field r 6 2) ∨ ((byteAt r 5).toNat = 2 ∧ 15 < field r 6 2) ∨
    2 < (byteAt r 8).toNat := by
  refine (bind_eq_none_or fun slot => bind_eq_none_or fun active => bind_eq_none_or fun source =>
    bind_pure_eq_none).trans ?_
  simp only [finOf_eq_none, yesNo_eq_none, sourceField_eq_none, tileChoiceField_eq_none, Nat.lt_iff_add_one_le,
    or_assoc]

end

/-! ## Records read back (R75 to R78, R87) -/

theorem parse_encodePrice (book : Fin 4) (item : Fin 1024) (entry : Option Price) :
    parseChange (encodeChange (.price book item entry)) = some (.price book item entry) := by
  rw [parseChange_price rfl]
  exact parsePrice_eq_some.2 ⟨book, item, entry, rfl,
    (toNat_ofNat_byte (Nat.lt_trans book.isLt (by decide))).symm,
    (leNat_leBytes_of_lt (n := 2) (Nat.lt_trans item.isLt (by decide))).symm,
    (leNat_leBytes_of_lt (price_number_lt entry)).symm⟩

/-- A tile is read back from its byte and its present bit (R77). -/
theorem optionalTile_isSome (t : Option Byte) : optionalTile t.isSome (t.getD 0) = t := by
  cases t <;> rfl

/-- The two present bits of an ITEM record (R77). -/
theorem tileBits (a b : Bool) : (BitVec.ofNat 8 (bit a + 2 * bit b)).getLsbD 0 = a ∧
    (BitVec.ofNat 8 (bit a + 2 * bit b)).getLsbD 1 = b := by
  revert a b
  decide

theorem parse_encodeItem (item : Fin 1024) (x : Item) :
    parseChange (encodeChange (.item item x)) = some (.item item x) := by
  rw [parseChange_item rfl]
  obtain ⟨hfirst, hsecond⟩ := tileBits x.tile.isSome x.soldOutTile.isSome
  have value : x.modifier.value < 256 ^ 3 := Nat.lt_trans x.modifier.value_lt (by decide)
  refine parseItem_eq_some.2 ⟨item, x, rfl, (leNat_leBytes_of_lt (n := 2) (Nat.lt_trans item.isLt (by decide))).symm,
    (toNat_ofNat_byte (Nat.lt_trans x.status.number_lt (by decide))).symm,
    (toNat_ofNat_byte (Nat.lt_trans x.modifier.kindNumber_lt (by decide))).symm,
    fun _ => (leNat_leBytes_of_lt value).symm, ?_, ?_⟩
  · exact (optionalTile_isSome x.tile).symm.trans (congrArg (optionalTile · _) hfirst.symm)
  · exact (optionalTile_isSome x.soldOutTile).symm.trans (congrArg (optionalTile · _) hsecond.symm)

theorem parse_encodeBind (slot : Fin 96) (b : Binding) :
    parseChange (encodeChange (.bind slot b)) = some (.bind slot b) := by
  rw [parseChange_bind rfl]
  refine parseBind_eq_some.2 ⟨slot, b, rfl, (leNat_leBytes_of_lt (n := 2) (Nat.lt_trans slot.isLt (by decide))).symm,
    (bit_toByte b.active).symm, (toNat_ofNat_byte (Nat.lt_trans b.source.kindNumber_lt (by decide))).symm,
    fun _ => (leNat_leBytes_of_lt (n := 2) (Nat.lt_trans b.source.number_lt (by decide))).symm,
    (toNat_ofNat_byte (Nat.lt_trans b.tileChoice.kindNumber_lt (by decide))).symm, fun t ht => ?_⟩
  show t = b.tileChoice.number
  rw [ht]
  rfl

theorem parse_encodePair (p : Fin 1024 × Status) : parsePair (encodePair p) = some p :=
  parsePair_eq_some.2 ⟨(leNat_leBytes_of_lt (n := 2) (Nat.lt_trans p.1.isLt (by decide))).symm,
    (toNat_ofNat_byte (Nat.lt_trans p.2.number_lt (by decide))).symm⟩

theorem encodeChange_length (c : Change) : (encodeChange c).length = 16 := by
  cases c <;> simp [encodeChange]

theorem encodePair_length (p : Fin 1024 × Status) : (encodePair p).length = 4 := by simp [encodePair]

theorem changeRecordsRoundTrip : Claims.ChangeRecordsRoundTrip := by
  refine ⟨fun c => ⟨?_, encodeChange_length c⟩, fun p => ⟨parse_encodePair p, encodePair_length p⟩, fun r h => ?_,
    fun r h => ?_, fun r h => ?_, fun r h => parseChange_unknown h⟩
  · cases c with
    | price book item entry => exact parse_encodePrice book item entry
    | item item x => exact parse_encodeItem item x
    | bind slot b => exact parse_encodeBind slot b
  · rw [parseChange_price h]; exact parsePrice_eq_none
  · rw [parseChange_item h]; exact parseItem_eq_none
  · rw [parseChange_bind h]; exact parseBind_eq_none

theorem changeRecordFields : Claims.ChangeRecordFields := by
  refine ⟨fun r c h hc => ?price, fun r c h hc => ?item, fun r c h hc => ?bind, fun r p hp => parsePair_eq_some.1 hp⟩
  case price =>
    rw [parseChange_price h] at hc
    obtain ⟨book, item, entry, hchange, hbook, hitem, hentry⟩ := parsePrice_eq_some.1 hc
    refine ⟨book, item, entry, hchange, hbook, hitem, ?_, fun p hp => ?_⟩
    · rw [price_none_iff, hentry]
    · rw [← hentry, hp]
      rfl
  case item =>
    rw [parseChange_item h] at hc
    exact parseItem_eq_some.1 hc
  case bind =>
    rw [parseChange_bind h] at hc
    exact parseBind_eq_some.1 hc

/-! ## What a change sets (R76 to R78, R88) -/

/-- The entries of the four books stand apart. -/
theorem bookIndex_eq_iff {b d : Fin 4} {i j : Fin 1024} : bookIndex d j.val = bookIndex b i.val ↔ d = b ∧ j = i := by
  have hi := i.isLt
  have hj := j.isLt
  rw [Fin.ext_iff, Fin.ext_iff]
  unfold bookIndex
  omega

theorem changesSetWhatTheyName : Claims.ChangesSetWhatTheyName := by
  refine ⟨fun l b d i j p => ?price, fun _ _ _ _ => ⟨rfl, rfl⟩, fun l i j r => ⟨Table.read_write _ _ _ _, rfl, rfl⟩,
    fun l k j b => ⟨Table.read_write _ _ _ _, rfl, rfl⟩, fun l i j status => ⟨?status, rfl, rfl⟩⟩
  case price =>
    refine (Table.read_write l.books (bookIndex b i.val) (bookIndex d j.val) p).trans ?_
    simp only [bookIndex_eq_iff]
    rfl
  case status =>
    refine (Table.read_write l.items i.val j _).trans ?_
    split
    · rename_i hj
      rw [hj]
    · rfl

/-- Settles O29: each field's check, once as what it takes and once as what it leaves out; then the tables' laws. -/
theorem changeRecords : Obligations.ChangeRecords :=
  ⟨changeRecordsRoundTrip, changeRecordFields, changesSetWhatTheyName⟩

end Sys2Proof.Machine
end

section
/-! PROOFS. The clock: SET_TIME by its checks in their order, and CLOCK_ADVANCE as an addition of microseconds modulo a
day (R98, R99). -/

namespace Sys2Proof.Machine

/-! ## SET_TIME (R99) -/

theorem exec_setTime (payload : List Byte) (s : State) :
    exec (.setTime payload) s = .next (settle .setTime s (setTime payload s)) := rfl

section
variable {payload : List Byte} {s : State}

theorem setTime_badLength (h : payload.length ≠ 8) : setTime payload s = .error .badLength := if_pos h

theorem setTime_badField (hlen : payload.length = 8) (h : 86399 < field payload 0 4 ∨ 999999 < field payload 4 4) :
    setTime payload s = .error .badField := by
  rw [setTime, if_neg (not_not.2 hlen), if_pos h]

/-- Past its checks a SET_TIME sets the clock, but in reset (R98, R99). -/
theorem setTime_passed (hlen : payload.length = 8) (hseconds : field payload 0 4 ≤ 86399)
    (hmicros : field payload 4 4 ≤ 999999) : setTime payload s = .ok (if s.timing.inReset then s
      else s.setTimeBase { s.timeBase with
        clockSet := true, seconds := field payload 0 4, micros := field payload 4 4 }) := by
  have hfields : ¬ (86399 < field payload 0 4 ∨ 999999 < field payload 4 4) := by omega
  rw [setTime, if_neg (not_not.2 hlen), if_neg hfields]
  split <;> rfl

end

theorem setTimeOutcome : Claims.SetTimeOutcome := by
  intro payload s
  simp only [exec_setTime]
  refine ⟨fun hlen => ?length, fun hlen hfields => ?fields, fun hlen hseconds hmicros => ?passed⟩
  case length => rw [setTime_badLength hlen, settle_error]
  case fields => rw [setTime_badField hlen hfields, settle_error]
  case passed =>
    rw [setTime_passed hlen hseconds hmicros, settle_ok]
    refine ⟨fun hout => ?_, fun hin => ?_⟩
    · rw [hout]
      rfl
    · rw [hin, if_pos rfl]

/-! ## CLOCK_ADVANCE (R98) -/

theorem exec_clockAdvance (n : Nat) (s : State) : exec (.clockAdvance n) s = .next
    ((s.setNow (s.now + n)).setTimeBase (if s.timing.inReset then s.timeBase else s.timeBase.advance n)) := rfl

theorem TimeBase.advance_unset {t : TimeBase} (h : t.clockSet = false) (n : Nat) : t.advance n = t := by
  rw [advance, h, if_neg Bool.false_ne_true]

theorem TimeBase.advance_set {t : TimeBase} (h : t.clockSet = true) (n : Nat) : t.advance n =
    { t with micros := (t.micros + n) % 1000000, seconds := (t.seconds + (t.micros + n) / 1000000) % 86400 } := by
  rw [advance, if_pos h]

/-- A clock that runs twice has run for the sum: the carry into the seconds is the same. -/
theorem TimeBase.advance_advance (t : TimeBase) (m n : Nat) : (t.advance m).advance n = t.advance (m + n) := by
  cases hset : t.clockSet with
  | false => rw [advance_unset hset, advance_unset hset, advance_unset hset]
  | true =>
    have hmicros : ((t.micros + m) % 1000000 + n) % 1000000 = (t.micros + (m + n)) % 1000000 := by omega
    have hseconds : ((t.seconds + (t.micros + m) / 1000000) % 86400 + ((t.micros + m) % 1000000 + n) / 1000000) % 86400 =
        (t.seconds + (t.micros + (m + n)) / 1000000) % 86400 := by omega
    rw [advance_set hset, advance_set hset, advance_set (by exact hset), hmicros, hseconds]

theorem clockAdvances : Claims.ClockAdvances := by
  refine ⟨fun n s hrest => ?rest, fun n s hset hout => ?runs, fun m n s t _ ht => ?twice⟩
  case rest =>
    have hstill : (if s.timing.inReset then s.timeBase else s.timeBase.advance n) = s.timeBase := by
      cases hrest with
      | inl hunset => rw [TimeBase.advance_unset hunset, ite_self]
      | inr hin => exact if_pos hin
    rw [exec_clockAdvance, hstill]
    rfl
  case runs =>
    refine ⟨(s.timeBase.seconds + (s.timeBase.micros + n) / 1000000) % 86400, (s.timeBase.micros + n) % 1000000, ?_,
      Nat.mod_lt _ (by decide), Nat.mod_lt _ (by decide), by omega⟩
    rw [exec_clockAdvance, hout, if_neg Bool.false_ne_true, TimeBase.advance_set hset]
    rfl
  case twice =>
    rw [exec_clockAdvance] at ht
    cases ht
    simp only [exec_clockAdvance, State.setTimeBase_now, State.setTimeBase_timing, State.setTimeBase_timeBase,
      State.setNow_timing, State.setNow_now, Nat.add_assoc]
    by_cases hin : s.timing.inReset = true
    · simp only [if_pos hin]
      rfl
    · simp only [if_neg hin, TimeBase.advance_advance]
      rfl

/-- Settles O31: SET_TIME by its checks in their order; CLOCK_ADVANCE by the clock as one count of microseconds. -/
theorem clockOutcome : Obligations.ClockOutcome := ⟨setTimeOutcome, clockAdvances⟩

end Sys2Proof.Machine
end

section
/-! PROOFS. The daypart in effect: the latest start of a list of entries, and the two lists the schedule is searched by
(R102, R103). -/

namespace Sys2Proof.Machine

/-! ## The latest start (R102, R103) -/

/-- Entry `k` outranks entry `j`: it starts later, or at the same minute with the lower number (R103). -/
def Outranks (schedule : Table ScheduleEntry.initial) (k j : Fin 8) : Prop :=
  (schedule.read j.val).start.val < (schedule.read k.val).start.val ∨
    ((schedule.read j.val).start.val = (schedule.read k.val).start.val ∧ k ≤ j)

theorem latestStart_eq_none {schedule : Table ScheduleEntry.initial} {l : List (Fin 8)} :
    latestStart schedule l = none ↔ l = [] := by
  cases l with
  | nil => exact iff_of_true rfl rfl
  | cons k ks =>
    refine iff_of_false ?_ (List.cons_ne_nil k ks)
    rw [latestStart]
    split
    · exact Option.some_ne_none k
    · split <;> exact Option.some_ne_none _

/-- Of entries in rising order the latest start is one of them, and it outranks all of them. -/
theorem latestStart_some {schedule : Table ScheduleEntry.initial} {l : List (Fin 8)} {k : Fin 8}
    (hsorted : l.Pairwise (· < ·)) (h : latestStart schedule l = some k) :
    k ∈ l ∧ ∀ j ∈ l, Outranks schedule k j := by
  induction l generalizing k with
  | nil => cases h
  | cons first rest ih =>
    obtain ⟨hfirst, hrest⟩ := List.pairwise_cons.1 hsorted
    have self (x : Fin 8) : Outranks schedule x x := .inr ⟨rfl, le_rfl⟩
    rw [latestStart] at h
    split at h
    case h_1 hnone =>
      obtain rfl := Option.some.inj h
      obtain rfl := latestStart_eq_none.1 hnone
      exact ⟨List.mem_singleton_self _, fun j hj => List.mem_singleton.1 hj ▸ self _⟩
    case h_2 best hbest =>
      obtain ⟨hmem, hall⟩ := ih hrest hbest
      split at h <;> obtain rfl := Option.some.inj h
      · rename_i hlater
        exact ⟨List.mem_cons_of_mem _ hmem, List.forall_mem_cons.2 ⟨.inl hlater, hall⟩⟩
      · rename_i hearlier
        refine ⟨List.mem_cons_self, List.forall_mem_cons.2 ⟨self _, fun j hj => ?_⟩⟩
        have hle := Fin.not_lt.1 hearlier
        have hlt := hfirst j hj
        have hj := hall j hj
        unfold Outranks at hj ⊢
        omega

/-! ## The lists the schedule is searched by -/

/-- The enabled entries, in order. -/
def enabledEntries (schedule : Table ScheduleEntry.initial) : List (Fin 8) :=
  scheduleNumbers.filter fun k => (schedule.read k.val).enabled

/-- The enabled entries that have begun by a minute, in order. -/
def begunEntries (schedule : Table ScheduleEntry.initial) (minute : Nat) : List (Fin 8) :=
  (enabledEntries schedule).filter fun k => decide ((schedule.read k.val).start.val ≤ minute)

theorem mem_scheduleNumbers : ∀ k : Fin 8, k ∈ scheduleNumbers := by decide

theorem scheduleNumbers_sorted : scheduleNumbers.Pairwise (· < ·) := by decide

section
variable {schedule : Table ScheduleEntry.initial} {minute : Nat} {k : Fin 8}

theorem mem_enabledEntries : k ∈ enabledEntries schedule ↔ (schedule.read k.val).enabled = true := by
  simp [enabledEntries, mem_scheduleNumbers]

theorem mem_begunEntries : k ∈ begunEntries schedule minute ↔
    (schedule.read k.val).enabled = true ∧ (schedule.read k.val).start.val ≤ minute := by
  simp [begunEntries, mem_enabledEntries]

theorem enabledEntries_sorted (schedule : Table ScheduleEntry.initial) : (enabledEntries schedule).Pairwise (· < ·) :=
  scheduleNumbers_sorted.filter _

theorem begunEntries_sorted (schedule : Table ScheduleEntry.initial) (minute : Nat) :
    (begunEntries schedule minute).Pairwise (· < ·) := (enabledEntries_sorted schedule).filter _

end

/-! ## The choice -/

/-- An entry that has begun is chosen over those that have not (R102, R103). -/
theorem daypartAt_second (schedule : Table ScheduleEntry.initial) (second : Nat) : daypartAt schedule (some second) =
    (latestStart schedule (begunEntries schedule (second / 60))).or (latestStart schedule (enabledEntries schedule)) := by
  unfold begunEntries enabledEntries daypartAt
  dsimp only
  split <;> rename_i hlatest <;> rw [hlatest] <;> rfl

/-- Settles O32: the latest start among the entries begun, or, with none begun, among the enabled ones. -/
theorem daypartChoice : Obligations.DaypartChoice := by
  intro schedule enabled start
  refine ⟨rfl, fun second => ⟨fun hnone => ?off, fun ⟨i, hi⟩ => ?on⟩⟩
  case off =>
    have hempty : enabledEntries schedule = [] :=
      List.eq_nil_iff_forall_not_mem.2 fun k hk => hnone k (mem_enabledEntries.1 hk)
    have hbegun : begunEntries schedule (second / 60) = [] := by rw [begunEntries, hempty, List.filter_nil]
    rw [daypartAt_second, hbegun, hempty]
    rfl
  case on =>
    cases hlatest : latestStart schedule (begunEntries schedule (second / 60)) with
    | some k =>
      obtain ⟨hmem, hall⟩ := latestStart_some (begunEntries_sorted schedule _) hlatest
      obtain ⟨henabled, hstart⟩ := mem_begunEntries.1 hmem
      exact ⟨k, by rw [daypartAt_second, hlatest, Option.some_or], henabled,
        fun _ => ⟨hstart, fun j hj hbegun => hall j (mem_begunEntries.2 ⟨hj, hbegun⟩)⟩,
        fun hlater => absurd hstart (Nat.not_le.2 (hlater k henabled))⟩
    | none =>
      have hbegun := latestStart_eq_none.1 hlatest
      have hsome : latestStart schedule (enabledEntries schedule) ≠ none := fun h =>
        List.ne_nil_of_mem (mem_enabledEntries.2 hi) (latestStart_eq_none.1 h)
      obtain ⟨k, hk⟩ := Option.ne_none_iff_exists'.1 hsome
      obtain ⟨hmem, hall⟩ := latestStart_some (enabledEntries_sorted schedule) hk
      refine ⟨k, by rw [daypartAt_second, hlatest, Option.none_or, hk], mem_enabledEntries.1 hmem, fun ⟨j, hj, hle⟩ => ?_,
        fun _ j hj => hall j (mem_enabledEntries.2 hj)⟩
      exact absurd (mem_begunEntries.2 ⟨hj, hle⟩) (hbegun ▸ List.not_mem_nil)

end Sys2Proof.Machine
end

section
/-! PROOFS. The rotation groups: who follows whom, GROUP_RESTART, and how each group moves at a frame boundary (R106,
R107, R110, R111, R113). -/

namespace Sys2Proof.Machine

/-! ## Leaders (R106) -/

section
variable {groups : Table GroupEntry.initial} {f g : Nat}

theorem leaderOf_of_leader {h : Fin 16} (hleader : (groups.read f).leader = some h) :
    leaderOf groups f = if h.val ≠ f ∧ (groups.read h.val).leader = none then some h.val else none := by
  rw [leaderOf, hleader]

theorem leaderOf_of_noLeader (hleader : (groups.read f).leader = none) : leaderOf groups f = none := by
  rw [leaderOf, hleader]

/-- A follower's leader is the group its leader field names, another group, with no leader of its own. -/
theorem leaderOf_eq_some : leaderOf groups f = some g ↔
    (∃ h : Fin 16, (groups.read f).leader = some h ∧ h.val = g) ∧ f ≠ g ∧ (groups.read g).leader = none := by
  cases hleader : (groups.read f).leader with
  | none => simp [leaderOf_of_noLeader hleader]
  | some h =>
    rw [leaderOf_of_leader hleader]
    constructor
    · intro hsome
      split at hsome
      · rename_i hother
        obtain rfl := Option.some.inj hsome
        exact ⟨⟨h, rfl, rfl⟩, hother.1.symm, hother.2⟩
      · cases hsome
    · rintro ⟨⟨_, hh, rfl⟩, hne, hnone⟩
      obtain rfl := Option.some.inj hh
      exact if_pos ⟨hne.symm, hnone⟩

theorem leaderIsBad_of_noLeader (hleader : (groups.read g).leader = none) : leaderIsBad groups g = false := by
  rw [leaderIsBad, hleader]
  rfl

/-- A leader cannot be followed when it is the group itself or has a leader. -/
theorem leaderIsBad_of_leader {h : Fin 16} (hleader : (groups.read g).leader = some h) :
    leaderIsBad groups g = (decide (h.val = g) || (groups.read h.val).leader.isSome) := by
  rw [leaderIsBad, leaderOf_of_leader hleader, hleader]
  by_cases hself : h.val = g <;> cases hown : (groups.read h.val).leader <;> simp [hself]

/-- A group is independent when its leader field names none, or one that cannot be followed. -/
theorem leaderOf_eq_none (h : (groups.read g).leader = none ∨ leaderIsBad groups g = true) :
    leaderOf groups g = none := by
  cases h with
  | inl hleader => exact leaderOf_of_noLeader hleader
  | inr hbad => exact Option.isNone_iff_eq_none.1 (Bool.and_eq_true_iff.1 hbad).2

/-- A leader that can be followed is another group, and independent. -/
theorem leaderOf_follower {h : Fin 16} (hleader : (groups.read g).leader = some h)
    (hgood : leaderIsBad groups g = false) :
    leaderOf groups g = some h.val ∧ leaderOf groups h.val = none := by
  rw [leaderIsBad_of_leader hleader, Bool.or_eq_false_iff, decide_eq_false_iff_not] at hgood
  obtain ⟨hother, hown⟩ := hgood
  have hnone : (groups.read h.val).leader = none := Option.isNone_iff_eq_none.1 (Option.isSome_eq_false_iff.1 hown)
  exact ⟨leaderOf_eq_some.2 ⟨⟨h, hleader, rfl⟩, fun e => hother e.symm, hnone⟩, leaderOf_of_noLeader hnone⟩

end

theorem GroupRun.moving_iff {r : GroupRun} : r.moving = true ↔ r.pending = false ∧ r.stopped = false := by
  rw [moving, Bool.and_eq_true_iff, Bool.not_eq_true', Bool.not_eq_true']

/-! ## GROUP_RESTART (R113) -/

theorem exec_groupRestart (payload : List Byte) (s : State) :
    exec (.groupRestart payload) s = .next (settle .groupRestart s (groupRestart payload s)) := rfl

theorem groupRestart_badLength {payload : List Byte} {s : State} (h : payload.length ≠ 1) :
    groupRestart payload s = .error .badLength := if_pos h

theorem groupRestart_byte (v : Byte) (s : State) : groupRestart [v] s =
    if v = 255 then .ok (s.setTimeBase { s.timeBase with runs := restartAll s.timeBase.runs })
    else if 16 ≤ v.toNat then .error .badField
    else .ok (s.setTimeBase { s.timeBase with runs := restartGroup s.setup.groups s.timeBase.runs v.toNat }) := rfl

theorem read_restartAll {runs : Table GroupRun.initial} {f : Nat} (hf : f < 16) :
    (restartAll runs).read f = (runs.read f).restart := by rw [restartAll, Table.read_ofFn, if_pos hf]

theorem read_restartGroup {groups : Table GroupEntry.initial} {runs : Table GroupRun.initial} {f : Nat} (hf : f < 16)
    (g : Nat) : (restartGroup groups runs g).read f =
      if f = g ∨ leaderOf groups f = some g then (runs.read f).restart else runs.read f := by
  rw [restartGroup, Table.read_ofFn, if_pos hf]

/-- Settles O33: the checks in their order; then record by record, the followers by what `leaderOf` answers. -/
theorem groupRestartOutcome : Obligations.GroupRestartOutcome := by
  refine ⟨fun payload s hlen => ?length, fun v s hhigh hall => ?number, fun v s hnumber => ?restarts⟩
  case length => rw [exec_groupRestart, groupRestart_badLength hlen, settle_error]
  case number => rw [exec_groupRestart, groupRestart_byte, if_neg hall, if_pos hhigh, settle_error]
  case restarts =>
    rw [exec_groupRestart, groupRestart_byte]
    by_cases hall : v = 255
    · refine ⟨restartAll s.timeBase.runs, by rw [if_pos hall]; rfl, fun f hf => ?_⟩
      rw [read_restartAll hf, if_pos (.inl hall)]
      rfl
    · have hlow : ¬ 16 ≤ v.toNat := Nat.not_le.2 (hnumber.resolve_right hall)
      refine ⟨restartGroup s.setup.groups s.timeBase.runs v.toNat, by rw [if_neg hall, if_neg hlow]; rfl,
        fun f hf => ?_⟩
      rw [read_restartGroup hf]
      simp only [hall, false_or, leaderOf_eq_some]
      rfl

/-! ## The groups at a frame boundary (R107, R110, R111) -/

section
variable {groups : Table GroupEntry.initial} {items : Table Item.initial} {runs : Table GroupRun.initial} {g : Nat}

/-- A group whose restart is pending, or which is stopped, does not move. -/
theorem movedRun_still (h : (runs.read g).pending = true ∨ (runs.read g).stopped = true) :
    movedRun groups items runs g = runs.read g := by
  have hstill : ¬ (runs.read g).moving = true := by
    rw [GroupRun.moving_iff]
    rintro ⟨hpending, hstopped⟩
    simp [hpending, hstopped] at h
  exact if_neg hstill

section
variable (hmoving : (runs.read g).moving = true)
include hmoving

/-- An independent group counts, and steps at its dwell. -/
theorem movedRun_independent (h : leaderOf groups g = none) : movedRun groups items runs g =
    if (runs.read g).count + 1 = (groups.read g).dwell.toNat then
      { stepRun items (groups.read g) (runs.read g) with count := 0 }
    else { runs.read g with count := (runs.read g).count + 1 } := by
  rw [movedRun, if_pos hmoving, h]

/-- A follower steps when its leader does. -/
theorem movedRun_follower {h : Nat} (hleader : leaderOf groups g = some h) : movedRun groups items runs g =
    if stepsAtBoundary groups runs h = true then stepRun items (groups.read g) (runs.read g) else runs.read g := by
  rw [movedRun, if_pos hmoving, hleader]

end

/-- An independent group steps at a boundary when it moves and its count reaches its dwell (R107). -/
theorem stepsAtBoundary_iff (h : leaderOf groups g = none) : stepsAtBoundary groups runs g = true ↔
    (runs.read g).pending = false ∧ (runs.read g).stopped = false ∧
      (runs.read g).count + 1 = (groups.read g).dwell.toNat := by
  rw [stepsAtBoundary, h, Option.isNone_none, Bool.true_and, Bool.and_eq_true_iff, GroupRun.moving_iff,
    decide_eq_true_iff, and_assoc]

end

theorem timeBaseBoundary_read_runs (s : State) {g : Nat} (hg : g < 16) : (timeBaseBoundary s).timeBase.runs.read g =
    boundaryRun s.setup.groups s.live.items s.timeBase.runs g :=
  (Table.read_ofFn _ _ _).trans (if_pos hg)

/-- Settles O34: a boundary's record is the group moved on, with restart pending no and BAD_LEADER as `leaderIsBad`. -/
theorem boundaryMovesGroups : Obligations.BoundaryMovesGroups := by
  intro s g hg e r bad after t
  have hbad : leaderIsBad s.setup.groups g = bad := by
    dsimp only [bad]
    cases hleader : e.leader with
    | none => exact leaderIsBad_of_noLeader hleader
    | some h => exact leaderIsBad_of_leader hleader
  have ht : t = after (movedRun s.setup.groups s.live.items s.timeBase.runs g) :=
    (timeBaseBoundary_read_runs s hg).trans (by rw [boundaryRun, hbad])
  rw [ht, ← hbad]
  refine ⟨fun hstill => ?still, fun hpending hstopped hnone => ?independent,
    fun h hpending hstopped hleader hgood => ?follower⟩
  case still => rw [movedRun_still hstill]
  case independent =>
    rw [movedRun_independent (GroupRun.moving_iff.2 ⟨hpending, hstopped⟩) (leaderOf_eq_none hnone)]
  case follower =>
    obtain ⟨hfollows, hindependent⟩ := leaderOf_follower hleader hgood
    rw [movedRun_follower (GroupRun.moving_iff.2 ⟨hpending, hstopped⟩) hfollows]
    simp only [stepsAtBoundary_iff hindependent]
    rfl

end Sys2Proof.Machine
end

section
/-! PROOFS. A step of a rotation group, with and without skipping, and GROUP_STEP as a row of its own (R107 to R110). -/

namespace Sys2Proof.Machine

/-! ## The positions a skipping step searches (R109) -/

/-- The positions behind one position up to the end of a list of `n`. -/
theorem drop_range_eq_map {i n : Nat} (hi : i < n) :
    (List.range n).drop (i + 1) = (List.range' 1 (n - i - 1)).map fun d => (i + d) % n := by
  have hmod : ∀ d ∈ List.range' 1 (n - i - 1), (i + d) % n = i + d := fun d hd => by
    obtain ⟨-, hlt⟩ := List.mem_range'_1.1 hd
    exact Nat.mod_eq_of_lt (by omega)
  rw [List.map_congr_left hmod, List.map_add_range', List.range_eq_range', List.drop_range', Nat.sub_sub, Nat.zero_add,
    Nat.mul_one]

/-- The positions before one position of a list of `n`, reached around the end. -/
theorem take_range_eq_map {i n : Nat} (hi : i < n) :
    (List.range n).take i = (List.range' (n - i) i).map fun d => (i + d) % n := by
  have hmod : ∀ k ∈ List.range i, (i + (n - i + k)) % n = k := fun k hk => by
    have hlt := List.mem_range.1 hk
    rw [show i + (n - i + k) = k + n by omega, Nat.add_mod_right, Nat.mod_eq_of_lt (by omega)]
  rw [List.take_range, Nat.min_eq_left (Nat.le_of_lt hi), List.range'_eq_map_range, List.map_map]
  exact ((List.map_congr_left hmod).trans (List.map_id' _)).symm

/-- How far a skipping step looks: all around in REPEAT, to the end of the list in ONE_SHOT. -/
def stepReach (e : GroupEntry) (index : Nat) : Nat := if e.mode = .repeating then e.count else e.count - index

/-- A skipping step searches the positions at the distances 1, 2, … below its reach. -/
theorem candidates_eq_map {e : GroupEntry} {index : Nat} (h : index < e.count) :
    candidates e index = (List.range' 1 (stepReach e index - 1)).map fun d => (index + d) % e.count := by
  unfold candidates stepReach
  cases e.mode with
  | repeating =>
    have hsplit : List.range' 1 (e.count - 1) =
        List.range' 1 (e.count - index - 1) ++ List.range' (e.count - index) index := by
      rw [show e.count - 1 = (e.count - index - 1) + index by omega, ← List.range'_append_1]
      congr 2
      omega
    dsimp only
    rw [if_pos rfl, hsplit, List.map_append, drop_range_eq_map h, take_range_eq_map h]
  | oneShot =>
    dsimp only
    rw [if_neg (by decide), drop_range_eq_map h]

theorem qualifies_iff {items : Table Item.initial} {e : GroupEntry} {position : Nat} :
    qualifies items e position = true ↔ (items.read (e.member position).val).status = .available := beq_iff_eq

section
variable {e : GroupEntry} {index : Nat} (h : index < e.count) {p : Nat → Bool}
include h

/-- The search ends at the nearest distance that qualifies. -/
theorem find_candidates_eq_some {d : Nat} (hpos : 1 ≤ d) (hreach : d < stepReach e index)
    (hd : p ((index + d) % e.count) = true) (hnearer : ∀ c, 1 ≤ c → c < d → ¬ p ((index + c) % e.count) = true) :
    (candidates e index).find? p = some ((index + d) % e.count) := by
  have hfound : (List.range' 1 (stepReach e index - 1)).find? (p ∘ fun d => (index + d) % e.count) = some d :=
    List.find?_range'_eq_some.2 ⟨hd, List.mem_range'_1.2 (by omega),
      fun c hc hlt => by simpa using hnearer c hc hlt⟩
  rw [candidates_eq_map h, List.find?_map, hfound]
  rfl

theorem find_candidates_eq_none (hall : ∀ d, 1 ≤ d → d < stepReach e index → ¬ p ((index + d) % e.count) = true) :
    (candidates e index).find? p = none := by
  rw [candidates_eq_map h, List.find?_eq_none]
  intro i hi
  obtain ⟨d, hd, rfl⟩ := List.mem_map.1 hi
  obtain ⟨hpos, hlt⟩ := List.mem_range'_1.1 hd
  exact hall d hpos (by omega)

end

/-! ## A step (R108, R109) -/

section
variable {items : Table Item.initial} {e : GroupEntry} {r : GroupRun}

/-- In ONE_SHOT the last member stops the group. -/
theorem stepRun_last (hmode : e.mode = .oneShot) (hlast : r.index + 1 = e.count) :
    stepRun items e r = { r with stopped := true } := if_pos ⟨hmode, Nat.le_of_eq hlast.symm⟩

/-- Where a group can go on: in REPEAT always, in ONE_SHOT before the last member. -/
theorem not_last_of_goesOn (h : e.mode = .repeating ∨ r.index + 1 < e.count) :
    ¬ (e.mode = .oneShot ∧ e.count ≤ r.index + 1) := by
  rintro ⟨hmode, hlast⟩
  cases h with
  | inl hrepeat => cases hmode.symm.trans hrepeat
  | inr hlt => omega

theorem stepRun_plain (hgo : e.mode = .repeating ∨ r.index + 1 < e.count) (hskip : e.skipUnavailable = false) :
    stepRun items e r = { r with index := if r.index + 1 < e.count then r.index + 1 else 0 } := by
  rw [stepRun, if_neg (not_last_of_goesOn hgo), hskip, if_neg Bool.false_ne_true]
  split <;> rfl

theorem stepRun_skip (hgo : e.mode = .repeating ∨ r.index + 1 < e.count) (hskip : e.skipUnavailable = true) :
    stepRun items e r = { r with index := ((candidates e r.index).find? (qualifies items e)).getD r.index } := by
  rw [stepRun, if_neg (not_last_of_goesOn hgo), if_pos hskip]
  split <;> rename_i hfind <;> rw [hfind] <;> rfl

end

theorem stepRule : Claims.StepRule := by
  intro items e r hindex
  refine ⟨fun hmode hlast => stepRun_last hmode hlast, fun hskip hlt => ?next, fun hskip hmode hlast => ?around,
    fun hskip hgo => ⟨fun d hpos hreach hd hnearer => ?found, fun hall => ?stays⟩⟩
  case next => rw [stepRun_plain (.inr hlt) hskip, if_pos hlt]
  case around => rw [stepRun_plain (.inl hmode) hskip, if_neg (by omega)]
  case found =>
    have hfind := find_candidates_eq_some (p := qualifies items e) hindex hpos hreach (qualifies_iff.2 hd)
      fun c hc hlt => mt qualifies_iff.1 (hnearer c hc hlt)
    rw [stepRun_skip hgo hskip, hfind, Option.getD_some]
  case stays =>
    have hfind := find_candidates_eq_none (p := qualifies items e) hindex
      fun d hpos hreach => mt qualifies_iff.1 (hall d hpos hreach)
    rw [stepRun_skip hgo hskip, hfind, Option.getD_none]

/-! ## GROUP_STEP (R107, R110) -/

theorem exec_groupStep (g : Fin 16) (s : State) : exec (.groupStep g) s = .next (if groupIsDue s g.val then
    s.setTimeBase { s.timeBase with runs := groupStepRuns s.setup.groups s.live.items s.timeBase.runs g.val }
  else s) := rfl

theorem groupIsDue_iff {s : State} {g : Nat} : groupIsDue s g = true ↔
    leaderOf s.setup.groups g = none ∧ (s.timeBase.runs.read g).pending = false ∧
      (s.timeBase.runs.read g).stopped = false ∧
      (s.setup.groups.read g).dwell.toNat ≤ (s.timeBase.runs.read g).count := by
  rw [groupIsDue, Bool.and_eq_true_iff, Bool.and_eq_true_iff, Option.isNone_iff_eq_none, GroupRun.moving_iff,
    decide_eq_true_iff, and_assoc, and_assoc]

section
variable {groups : Table GroupEntry.initial} {items : Table Item.initial} {runs : Table GroupRun.initial} {f g : Nat}

theorem read_groupStepRuns_self (hg : g < 16) : (groupStepRuns groups items runs g).read g =
    { stepRun items (groups.read g) (runs.read g) with count := 0 } := by
  rw [groupStepRuns, Table.read_ofFn, if_pos hg, if_pos rfl]

theorem read_groupStepRuns_other (hf : f < 16) (hne : f ≠ g) : (groupStepRuns groups items runs g).read f =
    if leaderOf groups f = some g ∧ (runs.read f).pending = false ∧ (runs.read f).stopped = false then
      stepRun items (groups.read f) (runs.read f) else runs.read f := by
  rw [groupStepRuns, Table.read_ofFn, if_pos hf, if_neg hne]
  simp only [GroupRun.moving_iff]

end

theorem groupStepOutcome : Claims.GroupStepOutcome := by
  intro g s due
  refine ⟨fun hnot => ?_, fun hdue => ⟨_, ?_, read_groupStepRuns_self g.isLt,
    fun f hf hne => read_groupStepRuns_other hf hne⟩⟩
  · rw [exec_groupStep, if_neg (mt groupIsDue_iff.1 hnot)]
  · rw [exec_groupStep, if_pos (groupIsDue_iff.2 hdue)]
    rfl

/-- Settles O35: a skipping step finds the nearest distance that qualifies; GROUP_STEP acts on a due group. -/
theorem groupStepping : Obligations.GroupStepping := ⟨stepRule, groupStepOutcome⟩

end Sys2Proof.Machine
end

section
/-! PROOFS. The price of an item, stage by stage, and the glyph run of its display value (R122 to R128). -/

namespace Sys2Proof.Machine

/-! ## The stages of the price (R123 to R126) -/

/-- No modifier takes a price above the highest one (R123). -/
theorem applyModifier_le (p : Price) (m : Modifier) : applyModifier p.val m ≤ 99999 := by
  have hp : p.val ≤ 99999 := Nat.le_of_lt_succ p.isLt
  cases m with
  | none => exact hp
  | percentOff tenths => exact Nat.le_trans (Nat.sub_le _ _) hp
  | amountOff amount => exact Nat.le_trans (Nat.sub_le _ _) hp
  | fixed price => exact Nat.le_of_lt_succ price.isLt

theorem applyTax_eq (f : FormatEntry) (q : Nat) : applyTax f q =
    if f.taxMode = .inclusive then (q * (10000 + f.rate.val) + 5000) / 10000 else q := by
  unfold applyTax
  cases f.taxMode <;> rfl

/-- The highest rate, 50 percent, adds half of the price (R46, R124). -/
theorem applyTax_le (f : FormatEntry) {q : Nat} (hq : q ≤ 99999) : applyTax f q ≤ 149999 := by
  rw [applyTax_eq]
  split
  · have hrate : 10000 + f.rate.val ≤ 15000 := by omega
    have hproduct : q * (10000 + f.rate.val) ≤ 99999 * 15000 := Nat.mul_le_mul hq hrate
    omega
  · omega

/-- Every granularity is positive, and the bound of the rounded value is a multiple of it (R46). -/
theorem Granularity.units_bounds (g : Granularity) : 0 < g.units ∧ g.units ∣ 150000 := by
  cases g <;> decide

/-- The greatest multiple of `g` up to `n` is less than `g` away from it. -/
theorem div_mul_bounds {g : Nat} (hg : 0 < g) (n : Nat) : n / g * g ≤ n ∧ n < n / g * g + g :=
  ⟨Nat.div_mul_le_self n g, Nat.lt_div_mul_add hg⟩

theorem roundingRule : Claims.RoundingRule := by
  intro f t g r
  have hg : 0 < g := f.granularity.units_bounds.1
  refine ⟨fun h => ?exact, fun h => ?nearest, fun h => ?up, fun h => ?charm⟩
  case exact => simp only [r, applyRounding, h]
  case nearest =>
    have hr : r = (t + g / 2) / g * g := by simp only [r, applyRounding, h]; rfl
    obtain ⟨hle, hlt⟩ := div_mul_bounds hg (t + g / 2)
    exact ⟨hr ▸ Nat.dvd_mul_left _ _, by omega, by omega⟩
  case up =>
    have hr : r = (t + g - 1) / g * g := by simp only [r, applyRounding, h]; rfl
    obtain ⟨hle, hlt⟩ := div_mul_bounds hg (t + g - 1)
    exact ⟨hr ▸ Nat.dvd_mul_left _ _, by omega, by omega⟩
  case charm =>
    have hr : r = t - t % 10 + 9 := by simp only [r, applyRounding, h]
    omega

/-- A rounded value is less than one granularity above the bound, which the granularity divides. -/
theorem applyRounding_le (f : FormatEntry) {t : Nat} (ht : t ≤ 149999) : applyRounding f t ≤ 150000 := by
  obtain ⟨hexact, hnearest, hup, hcharm⟩ := roundingRule f t
  obtain ⟨hpos, hdvd⟩ := f.granularity.units_bounds
  cases hmode : f.rounding with
  | exact => have := hexact hmode; omega
  | nearest =>
    obtain ⟨hmultiple, hle, -⟩ := hnearest hmode
    exact Nat.le_of_lt_add_of_dvd (by omega) hmultiple hdvd
  | up =>
    obtain ⟨hmultiple, -, hlt⟩ := hup hmode
    exact Nat.le_of_lt_add_of_dvd (by omega) hmultiple hdvd
  | charm => obtain ⟨hnine, -, hlt⟩ := hcharm hmode; omega

theorem saturate_eq_min (r : Nat) : saturate r = min r 99999 := by
  unfold saturate
  split <;> omega

section
variable (f : FormatEntry) {i : Item}

theorem computeRun_soldOut (price : Option Price) (h : i.status = .soldOut) :
    computeRun f i price = (0, ⟨[soldOutCode], { RenderFlags.clear with soldOut := true }⟩) := if_pos h

theorem computeRun_noPrice (h : i.status ≠ .soldOut) :
    computeRun f i none = (0, ⟨[dashCode], { RenderFlags.clear with noPrice := true }⟩) := if_neg h

theorem computeRun_price (h : i.status ≠ .soldOut) (p : Price) : computeRun f i (some p) =
    (saturate (roundedValue f i.modifier p.val), ⟨priceRun f (saturate (roundedValue f i.modifier p.val)),
      { RenderFlags.clear with saturated := decide (99999 < roundedValue f i.modifier p.val) }⟩) := if_neg h

end

theorem stagesOfThePrice : Claims.StagesOfThePrice := by
  intro f i price
  refine ⟨fun h => computeRun_soldOut f price h, fun h hnone => ?_, fun p h hsome => ?_⟩
  · rw [hnone, computeRun_noPrice f h]
    rfl
  · intro q t r
    have hmodifier : q = applyModifier p.val i.modifier := rfl
    have htax : t = applyTax f q := (applyTax_eq f q).symm
    have hq : q ≤ 99999 := hmodifier ▸ applyModifier_le p i.modifier
    have ht : t ≤ 149999 := htax ▸ applyTax_le f hq
    have hr : roundedValue f i.modifier p.val = r := by rw [roundedValue, ← hmodifier, ← htax]
    rw [hsome, computeRun_price f h, hr, saturate_eq_min]
    exact ⟨hq, ht, applyRounding_le f ht, rfl, rfl, rfl⟩

/-- Settles O37: each stage by its bound, each rounding by the multiple it takes. -/
theorem priceArithmetic : Obligations.PriceArithmetic := ⟨stagesOfThePrice, roundingRule⟩

/-! ## The digits (R127, R128) -/

/-- The decimal digits by their number: one for each power of ten that the number reaches. -/
theorem digits_cases {n : Nat} (h : n < 100000) :
    (n < 10 ∧ digits n = [n]) ∨
    (10 ≤ n ∧ n < 100 ∧ digits n = [n / 10, n % 10]) ∨
    (100 ≤ n ∧ n < 1000 ∧ digits n = [n / 100, n / 10 % 10, n % 10]) ∨
    (1000 ≤ n ∧ n < 10000 ∧ digits n = [n / 1000, n / 100 % 10, n / 10 % 10, n % 10]) ∨
    (10000 ≤ n ∧ n < 100000 ∧ digits n = [n / 10000, n / 1000 % 10, n / 100 % 10, n / 10 % 10, n % 10]) := by
  unfold digits
  split_ifs <;> simp only [and_true] <;> omega

theorem digits_value {n : Nat} (h : n < 100000) : (digits n).foldl (fun a c => 10 * a + c) 0 = n := by
  rcases digits_cases h with ⟨-, e⟩ | ⟨-, -, e⟩ | ⟨-, -, e⟩ | ⟨-, -, e⟩ | ⟨-, -, e⟩ <;> rw [e] <;>
    simp only [List.foldl_cons, List.foldl_nil] <;> omega

theorem digits_lt {n : Nat} (h : n < 100000) : ∀ c ∈ digits n, c < 10 := by
  rcases digits_cases h with ⟨hn, e⟩ | ⟨-, hn, e⟩ | ⟨-, hn, e⟩ | ⟨-, hn, e⟩ | ⟨-, hn, e⟩ <;> rw [e] <;>
    simp only [List.forall_mem_cons, List.not_mem_nil, false_imp_iff, implies_true, and_true] <;> omega

theorem digits_no_leading_zero {n : Nat} (h : n < 100000) : digits n = [0] ∨ (digits n).head? ≠ some 0 := by
  rcases digits_cases h with ⟨-, e⟩ | ⟨hn, -, e⟩ | ⟨hn, -, e⟩ | ⟨hn, -, e⟩ | ⟨hn, -, e⟩ <;> rw [e] <;>
    simp only [List.head?_cons, ne_eq, Option.some.injEq, List.cons.injEq, and_true]
  · exact Decidable.em _
  all_goals exact .inr (by omega)

theorem digits_length {n : Nat} (h : n < 100000) : (digits n).length ≤ 5 ∧ (n < 1000 → (digits n).length ≤ 3) := by
  rcases digits_cases h with ⟨-, e⟩ | ⟨-, -, e⟩ | ⟨-, -, e⟩ | ⟨hn, -, e⟩ | ⟨hn, -, e⟩ <;> rw [e] <;>
    simp only [List.length_cons, List.length_nil] <;> omega

theorem digits_ne_nil (n : Nat) : digits n ≠ [] := by
  unfold digits
  split_ifs <;> exact List.cons_ne_nil _ _

/-! ## The run (R128) -/

/-- The fraction of a display value by the format's style (R127). -/
theorem fraction_eq (f : FormatEntry) (d : Nat) : fraction f (d % 100) =
    if f.dropZeroFraction = true ∧ d % 100 = 0 then []
    else if f.raised = true then [10 + d / 10 % 10, 10 + d % 10] else [20, d / 10 % 10, d % 10] := by
  have tens : d % 100 / 10 = d / 10 % 10 := by omega
  have units : d % 100 % 10 = d % 10 := by omega
  rw [fraction, tens, units]
  rfl

theorem digitSequence_zero {f : FormatEntry} (h : f.decimals = .zero) (d : Nat) : digitSequence f d = digits d := by
  simp only [digitSequence, h]

theorem digitSequence_two {f : FormatEntry} (h : f.decimals ≠ .zero) (d : Nat) :
    digitSequence f d = digits (d / 100) ++ fraction f (d % 100) := by
  cases hd : f.decimals with
  | zero => exact absurd hd h
  | two => simp only [digitSequence, hd]

theorem priceRun_zeroMark {f : FormatEntry} (h : f.zeroMark = true) : priceRun f 0 = [zeroCode] := if_pos ⟨rfl, h⟩

theorem priceRun_sequence {f : FormatEntry} {d : Nat} (h : d ≠ 0 ∨ f.zeroMark = false) :
    priceRun f d = withCurrency f.currency (digitSequence f d) :=
  if_neg fun hz => h.elim (· hz.1) (by simp [hz.2])

/-- A run that a render record can hold: at most 7 glyphs of the codes 0 to 24 (R128, R135). -/
structure RunLegal (run : List Nat) : Prop where
  length : run.length ≤ 7
  codes : ∀ c ∈ run, c ≤ 24

theorem RunLegal.sublist {run part : List Nat} (h : RunLegal run) (hpart : part.Sublist run) : RunLegal part :=
  ⟨Nat.le_trans hpart.length_le h.length, fun c hc => h.codes c (hpart.subset hc)⟩

theorem fraction_length (f : FormatEntry) (cents : Nat) : (fraction f cents).length ≤ 3 := by
  unfold fraction
  split_ifs <;> simp

theorem fraction_codes (f : FormatEntry) (d : Nat) : ∀ c ∈ fraction f (d % 100), c ≤ 24 := by
  rw [fraction_eq]
  split_ifs <;> simp only [List.forall_mem_cons, List.not_mem_nil, false_imp_iff, implies_true, and_true] <;> omega

/-- The sequence without its currency sign leaves room for the sign (R128). -/
theorem digitSequence_bounds (f : FormatEntry) {d : Nat} (hd : d ≤ 99999) :
    (digitSequence f d).length ≤ 6 ∧ ∀ c ∈ digitSequence f d, c ≤ 24 := by
  by_cases hz : f.decimals = .zero
  · have hlength := (digits_length (n := d) (by omega)).1
    rw [digitSequence_zero hz]
    exact ⟨by omega, fun c hc => by have := digits_lt (by omega) c hc; omega⟩
  · have hlength := (digits_length (n := d / 100) (by omega)).2 (by omega)
    have hfraction := fraction_length f (d % 100)
    rw [digitSequence_two hz]
    refine ⟨by rw [List.length_append]; omega, fun c hc => ?_⟩
    rcases List.mem_append.1 hc with hc | hc
    · have := digits_lt (by omega) c hc
      omega
    · exact fraction_codes f d c hc

theorem RunLegal.priceRun (f : FormatEntry) {d : Nat} (hd : d ≤ 99999) : RunLegal (priceRun f d) := by
  obtain ⟨hlength, hcodes⟩ := digitSequence_bounds f hd
  unfold Machine.priceRun
  split
  · exact ⟨by decide, by decide⟩
  · cases f.currency with
    | none => exact ⟨by simp only [withCurrency]; omega, hcodes⟩
    | before => exact ⟨by simp only [withCurrency, List.length_cons]; omega, List.forall_mem_cons.2 ⟨by decide, hcodes⟩⟩
    | after =>
      exact ⟨by simp only [withCurrency, List.length_append, List.length_singleton]; omega,
        List.forall_mem_append.2 ⟨hcodes, by decide⟩⟩

/-- Settles O38: the digits by the number of them, the run by the format's decimals, fraction and currency. -/
theorem runOfDisplayValue : Obligations.RunOfDisplayValue := by
  refine ⟨fun n hn => ⟨digits_value hn, digits_lt hn, digits_no_leading_zero hn, digits_ne_nil n⟩, fun f d hd =>
    ⟨(RunLegal.priceRun f hd).length, fun hzero hmark => hzero ▸ priceRun_zeroMark hmark,
      fun hplain => ?_⟩⟩
  intro fraction sequence
  have hsequence : digitSequence f d = sequence := by
    by_cases hz : f.decimals = .zero
    · simp only [sequence, fraction, digitSequence_zero hz, hz, true_or, if_true, List.append_nil]
    · simp only [sequence, fraction, digitSequence_two hz, fraction_eq, hz, false_or, if_false]
  rw [priceRun_sequence hplain, hsequence]
  rfl

end Sys2Proof.Machine
end

section
/-! PROOFS. The fit of a run in its price box, step by step, and its placement (R129 to R134). -/

namespace Sys2Proof.Machine

/-! ## The width of a run (R129) -/

/-- Every glyph of a run is present in the font (R130). -/
def FontView.Has (v : FontView) (run : List Nat) : Prop := ∀ c ∈ run, (v.metric c).present = true

section
variable (v : FontView)

@[simp] theorem FontView.runWidth_nil : v.runWidth [] = 0 := rfl

@[simp] theorem FontView.runWidth_singleton (c : Nat) : v.runWidth [c] = v.width c := rfl

/-- A glyph before others takes its advance (R129). -/
theorem FontView.runWidth_cons (c : Nat) {rest : List Nat} (h : rest ≠ []) :
    v.runWidth (c :: rest) = v.advance c + v.runWidth rest := by
  cases rest with
  | nil => exact absurd rfl h
  | cons d rest => rfl

theorem FontView.runWidth_concat (run : List Nat) (c : Nat) :
    v.runWidth (run ++ [c]) = (run.map v.advance).sum + v.width c := by
  induction run with
  | nil => simp
  | cons d run ih =>
    rw [List.cons_append, runWidth_cons v d (by simp), ih, List.map_cons, List.sum_cons, Nat.add_assoc]

/-- A run with a width is not empty. -/
theorem FontView.ne_nil_of_lt_runWidth {pw : Nat} {run : List Nat} (h : pw < v.runWidth run) : run ≠ [] := by
  rintro rfl
  exact absurd h (Nat.not_lt_zero _)

theorem FontView.has_nil : v.Has [] := List.forall_mem_nil _

theorem FontView.dash_present (h : (v.metric 22).present = true) : v.dash = [22] := if_pos h

theorem FontView.dash_absent (h : ¬ (v.metric 22).present = true) : v.dash = [] := if_neg h

theorem FontView.dash_sublist : v.dash.Sublist [dashCode] := by
  unfold FontView.dash
  split
  · exact List.Sublist.refl _
  · exact List.nil_sublist _

theorem FontView.dash_has : v.Has v.dash := by
  by_cases h : (v.metric 22).present = true
  · rw [dash_present v h]
    exact List.forall_mem_singleton.2 h
  · rw [dash_absent v h]
    exact v.has_nil

end

/-! ## The four steps (R130 to R133) -/

section
variable {v : FontView} {pw ph : Nat} {x : Fitting}

theorem fitGlyphs_of_has (h : v.Has x.run) : fitGlyphs v x = x := if_pos (List.all_eq_true.2 h)

theorem fitGlyphs_of_lacks (h : ∃ c ∈ x.run, (v.metric c).present = false) :
    fitGlyphs v x = ⟨v.dash, { x.flags with glyphMissing := true }⟩ := by
  obtain ⟨c, hc, habsent⟩ := h
  refine if_neg fun hall => ?_
  have := List.all_eq_true.1 hall c hc
  simp [habsent] at this

theorem fitHeight_of_le (h : v.height ≤ ph) : fitHeight v ph x = x := if_neg fun hhigh => Nat.not_lt.2 h hhigh.2

theorem fitHeight_of_nil (h : x.run = []) : fitHeight v ph x = x := if_neg fun hhigh => hhigh.1 h

theorem fitHeight_of_high (hrun : x.run ≠ []) (h : ph < v.height) :
    fitHeight v ph x = ⟨[], { x.flags with noFit := true }⟩ := if_pos ⟨hrun, h⟩

theorem fitCurrency_of_le (h : v.runWidth x.run ≤ pw) : fitCurrency v pw x = x :=
  if_neg fun hwide => Nat.not_lt.2 h hwide.1

theorem filter_bne_currency (run : List Nat) :
    run.filter (fun c => c != currencyCode) = run.filter (· ≠ currencyCode) :=
  List.filter_congr fun _ _ => Bool.eq_iff_iff.2 (by rw [bne_iff_ne, decide_eq_true_iff])

/-- A run too wide keeps all its glyphs but the sign, which it loses where it has one (R132). -/
theorem fitCurrency_of_wide (h : pw < v.runWidth x.run) : fitCurrency v pw x = ⟨x.run.filter (· ≠ currencyCode),
    { x.flags with currencyDropped := decide (currencyCode ∈ x.run) || x.flags.currencyDropped }⟩ := by
  by_cases hsign : currencyCode ∈ x.run
  · rw [fitCurrency, if_pos ⟨h, hsign⟩, decide_eq_true hsign, Bool.true_or, filter_bne_currency]
  · have hkept : x.run.filter (· ≠ currencyCode) = x.run :=
      List.filter_eq_self.2 fun c hc => decide_eq_true fun (he : c = currencyCode) => hsign (he ▸ hc)
    rw [fitCurrency, if_neg fun hwide => hsign hwide.2, hkept, decide_eq_false hsign, Bool.false_or]

theorem fitWidth_of_le (h : v.runWidth x.run ≤ pw) : fitWidth v pw x = x := if_neg (Nat.not_lt.2 h)

theorem fitWidth_of_wide (h : pw < v.runWidth x.run) : fitWidth v pw x =
    ⟨if (v.metric 22).present = true ∧ v.width 22 ≤ pw then [22] else [], { x.flags with overflow := true }⟩ := by
  rw [fitWidth, if_pos h]
  by_cases hdash : (v.metric 22).present = true
  · simp only [v.dash_present hdash, hdash, true_and, dashCode, ← Nat.not_lt, ite_not]
  · rw [v.dash_absent hdash, ite_self, if_neg fun hd => hdash hd.1]

/-! ### What each step leaves of the run -/

theorem fitGlyphs_has : v.Has (fitGlyphs v x).run := by
  unfold fitGlyphs
  split
  · rename_i h
    exact List.all_eq_true.1 h
  · exact v.dash_has

theorem fitGlyphs_run : (fitGlyphs v x).run = x.run ∨ (fitGlyphs v x).run = v.dash := by
  unfold fitGlyphs
  split
  · exact .inl rfl
  · exact .inr rfl

theorem fitHeight_sublist : (fitHeight v ph x).run.Sublist x.run := by
  unfold fitHeight
  split
  · exact List.nil_sublist _
  · exact List.Sublist.refl _

theorem fitHeight_le (h : (fitHeight v ph x).run ≠ []) : v.height ≤ ph := by
  by_contra hhigh
  by_cases hrun : x.run = []
  · exact h (by rw [fitHeight_of_nil hrun, hrun])
  · exact h (by rw [fitHeight_of_high hrun (Nat.lt_of_not_le hhigh)])

theorem fitCurrency_sublist : (fitCurrency v pw x).run.Sublist x.run := by
  unfold fitCurrency
  split
  · exact List.filter_sublist
  · exact List.Sublist.refl _

/-- The last step leaves a run that is narrow enough, or the dash where that is (R133). -/
theorem fitWidth_cases : (v.runWidth x.run ≤ pw ∧ fitWidth v pw x = x) ∨ (x.run ≠ [] ∧ (fitWidth v pw x).run = []) ∨
    (x.run ≠ [] ∧ v.width 22 ≤ pw ∧ (fitWidth v pw x).run = [22] ∧ (v.metric 22).present = true) := by
  rcases Nat.lt_or_ge pw (v.runWidth x.run) with hwide | hle
  · have hrun := v.ne_nil_of_lt_runWidth hwide
    rw [fitWidth_of_wide hwide]
    dsimp only
    split
    · rename_i hdash
      exact .inr (.inr ⟨hrun, hdash.2, rfl, hdash.1⟩)
    · exact .inr (.inl ⟨hrun, rfl⟩)
  · exact .inl ⟨hle, fitWidth_of_le hle⟩

end

/-! ## The whole fit -/

section
variable {v : FontView} {pw ph : Nat} {x : Fitting}

/-- A run after the first three steps of the fit: only its width is still to be met (R130 to R132). -/
def fitBeforeWidth (v : FontView) (pw ph : Nat) (x : Fitting) : Fitting :=
  fitCurrency v pw (fitHeight v ph (fitGlyphs v x))

theorem fitRun_eq : fitRun v pw ph x = fitWidth v pw (fitBeforeWidth v pw ph x) := rfl

theorem fitBeforeWidth_sublist : (fitBeforeWidth v pw ph x).run.Sublist (fitGlyphs v x).run :=
  fitCurrency_sublist.trans fitHeight_sublist

theorem fitBeforeWidth_height (h : (fitBeforeWidth v pw ph x).run ≠ []) : v.height ≤ ph :=
  fitHeight_le (x := fitGlyphs v x) fun hnil => h (List.sublist_nil.1 (hnil ▸ fitCurrency_sublist))

/-- The glyphs of a fitted run are the run's own, in order, or the dash. -/
theorem fitRun_sublist : (fitRun v pw ph x).run.Sublist x.run ∨ (fitRun v pw ph x).run.Sublist [dashCode] := by
  have hstart : (fitGlyphs v x).run.Sublist x.run ∨ (fitGlyphs v x).run.Sublist [dashCode] := by
    rcases fitGlyphs_run (v := v) (x := x) with e | e <;> rw [e]
    · exact .inl (List.Sublist.refl _)
    · exact .inr v.dash_sublist
  rcases fitWidth_cases (v := v) (pw := pw) (x := fitBeforeWidth v pw ph x) with ⟨-, e⟩ | ⟨-, e⟩ | ⟨-, -, e, -⟩ <;>
    rw [fitRun_eq, e]
  · exact hstart.imp fitBeforeWidth_sublist.trans fitBeforeWidth_sublist.trans
  · exact .inl (List.nil_sublist _)
  · exact .inr (List.Sublist.refl _)

/-- A run that is shown at all lies within the box and the font (R130 to R133). -/
theorem fitRun_fits (h : (fitRun v pw ph x).run ≠ []) : v.runWidth (fitRun v pw ph x).run ≤ pw ∧ v.height ≤ ph ∧
    v.Has (fitRun v pw ph x).run := by
  rcases fitWidth_cases (v := v) (pw := pw) (x := fitBeforeWidth v pw ph x) with
    ⟨hle, e⟩ | ⟨-, e⟩ | ⟨hrun, hdash, e, hpresent⟩ <;> rw [fitRun_eq, e] at h ⊢
  · exact ⟨hle, fitBeforeWidth_height h, fun c hc => fitGlyphs_has c (fitBeforeWidth_sublist.subset hc)⟩
  · exact absurd rfl h
  · exact ⟨hdash, fitBeforeWidth_height hrun, List.forall_mem_singleton.2 hpresent⟩

theorem fitRun_nil (flags : RenderFlags) : fitRun v pw ph ⟨[], flags⟩ = ⟨[], flags⟩ := by
  rw [fitRun, fitGlyphs_of_has v.has_nil, fitHeight_of_nil rfl, fitCurrency_of_le (Nat.zero_le _),
    fitWidth_of_le (Nat.zero_le _)]

section
variable (hhas : v.Has x.run)
include hhas

theorem fitRun_of_high (hrun : x.run ≠ []) (hhigh : ph < v.height) :
    fitRun v pw ph x = ⟨[], { x.flags with noFit := true }⟩ := by
  rw [fitRun, fitGlyphs_of_has hhas, fitHeight_of_high hrun hhigh, fitCurrency_of_le (Nat.zero_le _),
    fitWidth_of_le (Nat.zero_le _)]

variable (hheight : v.height ≤ ph)
include hheight

theorem fitRun_of_narrow (hle : v.runWidth x.run ≤ pw) : fitRun v pw ph x = x := by
  rw [fitRun, fitGlyphs_of_has hhas, fitHeight_of_le hheight, fitCurrency_of_le hle, fitWidth_of_le hle]

variable (hwide : pw < v.runWidth x.run)
include hwide

theorem fitRun_without_sign (hle : v.runWidth (x.run.filter (· ≠ currencyCode)) ≤ pw) : fitRun v pw ph x =
    ⟨x.run.filter (· ≠ currencyCode),
      { x.flags with currencyDropped := decide (currencyCode ∈ x.run) || x.flags.currencyDropped }⟩ := by
  rw [fitRun, fitGlyphs_of_has hhas, fitHeight_of_le hheight, fitCurrency_of_wide hwide, fitWidth_of_le hle]

theorem fitRun_of_wide (hstill : pw < v.runWidth (x.run.filter (· ≠ currencyCode))) : fitRun v pw ph x =
    ⟨if (v.metric 22).present = true ∧ v.width 22 ≤ pw then [22] else [], { x.flags with
      currencyDropped := decide (currencyCode ∈ x.run) || x.flags.currencyDropped, overflow := true }⟩ := by
  rw [fitRun, fitGlyphs_of_has hhas, fitHeight_of_le hheight, fitCurrency_of_wide hwide, fitWidth_of_wide hstill]

end

/-- A run with a glyph that the font lacks is fitted as the dash, or as nothing (R130). -/
theorem fitRun_of_lacks (h : ∃ c ∈ x.run, (v.metric c).present = false) :
    fitRun v pw ph x = fitRun v pw ph ⟨v.dash, { x.flags with glyphMissing := true }⟩ := by
  simp only [fitRun, fitGlyphs_of_lacks h, fitGlyphs_of_has (x := ⟨v.dash, _⟩) v.dash_has]

/-- What the dash, or nothing, becomes in the fit (R131, R133). -/
theorem fitRun_dash (flags : RenderFlags) :
    (¬ (v.metric 22).present = true → fitRun v pw ph ⟨v.dash, flags⟩ = ⟨[], flags⟩) ∧
    ((v.metric 22).present = true → ph < v.height →
      fitRun v pw ph ⟨v.dash, flags⟩ = ⟨[], { flags with noFit := true }⟩) ∧
    ((v.metric 22).present = true → v.height ≤ ph → pw < v.width 22 →
      fitRun v pw ph ⟨v.dash, flags⟩ = ⟨[], { flags with overflow := true }⟩) ∧
    ((v.metric 22).present = true → v.height ≤ ph → v.width 22 ≤ pw →
      fitRun v pw ph ⟨v.dash, flags⟩ = ⟨[22], flags⟩) := by
  refine ⟨fun hno => ?absent, fun hdash hhigh => ?high, fun hdash hheight hwide => ?wide,
    fun hdash hheight hle => ?fits⟩
  case absent => rw [v.dash_absent hno, fitRun_nil]
  all_goals
    have hhas : v.Has [22] := List.forall_mem_singleton.2 hdash
    rw [v.dash_present hdash]
  case high => exact fitRun_of_high hhas (List.cons_ne_nil _ _) hhigh
  case wide =>
    rw [fitRun_of_wide hhas hheight hwide hwide, if_neg fun hd => Nat.not_lt.2 hd.2 hwide]
    rfl
  case fits => exact fitRun_of_narrow hhas hheight hle

/-- The dash, or nothing, keeps the flag of what it stands for. -/
theorem fitRun_missing (h : ∃ c ∈ x.run, (v.metric c).present = false) :
    (fitRun v pw ph x).flags.glyphMissing = true ∧
      ((fitRun v pw ph x).run = [] ∨ (fitRun v pw ph x).run = [dashCode]) := by
  obtain ⟨absent, high, wide, fits⟩ := fitRun_dash (v := v) (pw := pw) (ph := ph) { x.flags with glyphMissing := true }
  rw [fitRun_of_lacks h]
  by_cases hdash : (v.metric 22).present = true
  · rcases Nat.lt_or_ge ph v.height with hhigh | hheight
    · rw [high hdash hhigh]
      exact ⟨rfl, .inl rfl⟩
    · rcases Nat.lt_or_ge pw (v.width 22) with hwide | hle
      · rw [wide hdash hheight hwide]
        exact ⟨rfl, .inl rfl⟩
      · rw [fits hdash hheight hle]
        exact ⟨rfl, .inr rfl⟩
  · rw [absent hdash]
    exact ⟨rfl, .inl rfl⟩

end

/-! ## Placement (R134) -/

/-- A run no wider than its box stands within it, at the edge or the middle that its alignment names. -/
theorem alignOffset_bounds (a : Alignment) {pw width : Nat} (h : width ≤ pw) :
    alignOffset a pw width + width ≤ pw ∧ (a = .left → alignOffset a pw width = 0) ∧
      (a = .right → alignOffset a pw width + width = pw) ∧
      (a = .center → alignOffset a pw width = (pw - width) / 2) := by
  cases a with
  | left => exact ⟨(Nat.zero_add width).trans_le h, fun _ => rfl, nofun, nofun⟩
  | right => exact ⟨(Nat.sub_add_cancel h).le, nofun, fun _ => Nat.sub_add_cancel h, nofun⟩
  | center => exact ⟨by simp only [alignOffset]; omega, nofun, nofun, fun _ => rfl⟩

section
variable (v : FontView) (e : SlotEntry) (display : Nat) {x : Fitting} (r : RenderRecord)

theorem enterRun_empty (h : x.run = []) :
    (enterRun v e display x r).xOffset = 0 ∧ (enterRun v e display x r).yOffset = 0 := ⟨if_pos h, if_pos h⟩

theorem enterRun_shown (h : x.run ≠ []) :
    (enterRun v e display x r).xOffset = alignOffset e.alignment e.pw.toNat (v.runWidth x.run) ∧
      (enterRun v e display x r).yOffset = (e.ph.toNat - v.height) / 2 := ⟨if_neg h, if_neg h⟩

end

/-- Settles O39: the steps of the fit in order, each by its own test; then the placement of what has come through. -/
theorem fitRule : Obligations.FitRule := by
  intro v pw ph x y dash
  refine ⟨fun c => ⟨rfl, rfl, rfl⟩, ⟨v.runWidth_nil, v.runWidth_concat⟩,
    fun hhas hheight hwide hstill => fitRun_of_wide hhas hheight hwide hstill, fun hlacks => ?lacks,
    fitRun_fits, fun hhas hheight hle => fitRun_of_narrow hhas hheight hle,
    fun hhas hheight hwide hsign hle => ?sign, fun hrun hhas hhigh => fitRun_of_high hhas hrun hhigh, fitRun_missing,
    fun e display r hpw hph => ?placement⟩
  case lacks =>
    have hy : y = _ := fitRun_of_lacks hlacks
    rw [hy]
    exact fitRun_dash _
  case sign =>
    have hy : y = _ := fitRun_without_sign hhas hheight hwide hle
    rw [hy, decide_eq_true hsign, Bool.true_or]
  case placement =>
    refine ⟨rfl, rfl, rfl, enterRun_empty v e display r, fun hrun => ?_⟩
    obtain ⟨hwidth, hheight, -⟩ := fitRun_fits hrun
    obtain ⟨hx, hy⟩ := enterRun_shown v e display r hrun
    obtain ⟨hinside, hleft, hright, hcenter⟩ := alignOffset_bounds e.alignment hwidth
    rw [hx, hy, hpw, hph]
    exact ⟨hinside, by omega, rfl, hleft, hright, hcenter⟩

end Sys2Proof.Machine
end

section
/-! PROOFS. The completion event (R119, R120, R135), and the render records in agreement with the live state (R71, R120,
R126, R128, R136). -/

namespace Sys2Proof.Machine

open Sys2Proof.Laws.PacketRow (packet)

/-! ## The completion event -/

/-- A record of a slot that shows no item is complete from the boundary on (R119). -/
theorem completedRecord_settled (p : Snapshot) (slot : Nat) {r : RenderRecord} (h : r.visible = false ∨ r.item = none) :
    completedRecord p slot r = r := by
  unfold completedRecord
  split
  · rename_i hvisible hitem
    simp [hvisible, hitem] at h
  · rfl

theorem completedRecord_waiting (p : Snapshot) (slot : Nat) {r : RenderRecord} {n : Fin 1024}
    (hvisible : r.visible = true) (hitem : r.item = some n) :
    let e := p.slots.read slot
    let computed := computeRun (p.formats.read e.format.val) (p.live.items.read n.val)
      (p.live.price p.live.liveBook n.val)
    completedRecord p slot r = enterRun (p.fontOf slot) e computed.1
      (fitRun (p.fontOf slot) e.pw.toNat e.ph.toNat computed.2) r := by
  unfold completedRecord
  rw [hvisible, hitem]

theorem read_completeRecords (p : Snapshot) (frame : Table RenderRecord.initial) (i : Nat) :
    (completeRecords p frame).read i = if i < 96 then completedRecord p i (frame.read i) else RenderRecord.initial :=
  Table.read_ofFn _ _ _

theorem Engine.complete_of_snapshot {g : Engine} {p : Snapshot} (h : g.snapshot = some p) :
    g.complete = ⟨some p, false, completeRecords p g.frame, completeRecords p g.frame⟩ := by
  simp only [Engine.complete, h]

theorem tenthLineEnded_input {s : State} (h : s.timing.source = .input) :
    tenthLineEnded s = decide (10 ≤ s.timing.blankingPassed + s.compositor.lines.length) := by
  simp only [tenthLineEnded, h]

theorem tenthLineEnded_generator {s : State} {g : GeneratorFrame} (h : s.timing.source ≠ .input)
    (hg : s.timing.generatorFrame = some g) :
    tenthLineEnded s = decide (10 * g.period ≤ (s.now - s.timing.frameStart) * (45 + g.activeLines)) := by
  cases hs : s.timing.source with
  | input => exact absurd hs h
  | generator => simp only [tenthLineEnded, hs, hg]
  | awaitingInput => simp only [tenthLineEnded, hs, hg]

theorem exec_completionEvent_early {s : State} (h : s.engine.computing = false ∨ tenthLineEnded s = false) :
    exec .completionEvent s = .next s := by
  have hexec : exec .completionEvent s = execCompletionEvent s := rfl
  rw [hexec, execCompletionEvent, if_neg fun hdue => by simp [hdue.1, hdue.2] at h]

theorem exec_completionEvent_due {s : State} (hcomputing : s.engine.computing = true)
    (hended : tenthLineEnded s = true) : exec .completionEvent s = .next (s.setEngine s.engine.complete) := by
  have hexec : exec .completionEvent s = execCompletionEvent s := rfl
  rw [hexec, execCompletionEvent, if_pos ⟨hcomputing, hended⟩]

/-- Settles O40: the tenth line by what times the frame, the records one by one. -/
theorem completionOutcome : Obligations.CompletionOutcome := by
  refine ⟨fun s hidle => exec_completionEvent_early (.inl hidle), fun s g hsource hg hbefore => ?generator,
    fun s hsource hbefore => ?input, fun s p hcomputing hsnapshot hended => ?due⟩
  case generator =>
    refine exec_completionEvent_early (.inr ?_)
    rw [tenthLineEnded_generator hsource hg]
    exact decide_eq_false (Nat.not_le.2 hbefore)
  case input =>
    refine exec_completionEvent_early (.inr ?_)
    rw [tenthLineEnded_input hsource]
    exact decide_eq_false (Nat.not_le.2 hbefore)
  case due =>
    have hended : tenthLineEnded s = true := by
      rcases hended with ⟨hsource, hlines⟩ | ⟨hsource, g, hg, htime⟩
      · rw [tenthLineEnded_input hsource]
        exact decide_eq_true hlines
      · rw [tenthLineEnded_generator hsource hg]
        exact decide_eq_true htime
    refine ⟨completeRecords p s.engine.frame, ?_, fun slot hslot => ?_⟩
    · rw [exec_completionEvent_due hcomputing hended, Engine.complete_of_snapshot hsnapshot]
      rfl
    · rw [read_completeRecords, if_pos hslot]
      exact ⟨completedRecord_settled p slot, fun n => completedRecord_waiting p slot⟩

/-! ## Records within their bounds (R126, R128, R135) -/

theorem RecordLegal.of_run {r : RenderRecord} (hdisplay : r.display ≤ 99999) (hrun : RunLegal r.run) : RecordLegal r :=
  ⟨hdisplay, hrun.length, hrun.codes⟩

theorem computeRun_legal (f : FormatEntry) (i : Item) (price : Option Price) :
    (computeRun f i price).1 ≤ 99999 ∧ RunLegal (computeRun f i price).2.run := by
  have mark (c : Nat) (hc : c ≤ 24) : RunLegal [c] := ⟨by simp, List.forall_mem_singleton.2 hc⟩
  by_cases hsold : i.status = .soldOut
  · rw [computeRun_soldOut f price hsold]
    exact ⟨Nat.zero_le _, mark _ (by decide)⟩
  · cases price with
    | none =>
      rw [computeRun_noPrice f hsold]
      exact ⟨Nat.zero_le _, mark _ (by decide)⟩
    | some p =>
      have hdisplay : saturate (roundedValue f i.modifier p.val) ≤ 99999 := by
        rw [saturate_eq_min]
        exact Nat.min_le_right _ _
      rw [computeRun_price f hsold]
      exact ⟨hdisplay, .priceRun f hdisplay⟩

/-- The fit takes glyphs away, or leaves the dash alone (R130 to R133). -/
theorem RunLegal.fitRun {x : Fitting} (h : RunLegal x.run) (v : FontView) (pw ph : Nat) :
    RunLegal (fitRun v pw ph x).run := by
  rcases fitRun_sublist (v := v) (pw := pw) (ph := ph) (x := x) with hpart | hpart
  · exact h.sublist hpart
  · exact RunLegal.sublist ⟨by decide, by decide⟩ hpart

theorem RecordLegal.completedRecord {r : RenderRecord} (h : RecordLegal r) (p : Snapshot) (slot : Nat) :
    RecordLegal (completedRecord p slot r) := by
  unfold Machine.completedRecord
  split
  · obtain ⟨hdisplay, hrun⟩ := computeRun_legal (p.formats.read (p.slots.read slot).format.val)
      (p.live.items.read _) (p.live.price p.live.liveBook _)
    exact .of_run hdisplay (hrun.fitRun _ _ _)
  · exact h

/-- The completion leaves a record's generation (R120). -/
theorem completedRecord_generation (p : Snapshot) (slot : Nat) (r : RenderRecord) :
    (completedRecord p slot r).generation = r.generation := by
  unfold completedRecord
  split <;> rfl

/-- A record that the boundary settles has no run yet, and the live state's generation (R71, R119). -/
theorem settledRecord_fresh (p : Snapshot) (slot : Nat) :
    RecordLegal (settledRecord p slot) ∧ (settledRecord p slot).generation = p.live.generation := by
  have empty {r : RenderRecord} (hdisplay : r.display = 0) (hrun : r.run = []) : RecordLegal r :=
    .of_run (hdisplay.trans_le (Nat.zero_le _)) ⟨by simp [hrun], by simp [hrun]⟩
  by_cases h : slotVisible p slot = true
  · rw [settledRecord_visible h]
    exact ⟨empty rfl rfl, rfl⟩
  · rw [settledRecord_invisible h]
    exact ⟨empty rfl rfl, rfl⟩

/-! ## What keeps the records coherent -/

/-- Coherence reads the Price Engine and the live state's generation alone. -/
theorem RecordsCoherent.congr {s t : State} (h : RecordsCoherent s) (hengine : t.engine = s.engine)
    (hlive : t.live = s.live) : RecordsCoherent t := by
  obtain ⟨frameLegal, publishedLegal, frameGeneration, publishedGeneration, published, computing⟩ := h
  constructor <;> simpa only [hengine, hlive]

/-- A boundary settles all records for the new frame's generation and leaves the published ones (R119, R121). -/
theorem RecordsCoherent.frameBoundary {s : State} (h : RecordsCoherent s) (source : TimingSource) :
    RecordsCoherent (frameBoundary source s) := by
  have hframe (i : Nat) : (Machine.frameBoundary source s).engine.frame.read i = if i < 96 then
      settledRecord (takeSnapshot (Machine.frameBoundary source s)) i else RenderRecord.initial := by
    rw [frameBoundary_engine]
    exact Table.read_ofFn _ _ _
  have hpublished : (Machine.frameBoundary source s).engine.published = s.engine.published := by
    rw [frameBoundary_engine]
  refine ⟨fun i => ?_, fun i => hpublished ▸ h.publishedLegal i, fun i hi => ?_, ?_, fun hidle => ?_, fun _ => ?_⟩
  · rw [hframe]
    split
    · exact (settledRecord_fresh _ _).1
    · exact recordLegal_initial
  · rw [hframe, if_pos hi]
    exact (settledRecord_fresh _ _).2
  · rw [hpublished]
    exact h.publishedGeneration
  · rw [frameBoundary_engine] at hidle
    cases hidle
  · rw [frameBoundary_engine]
    rfl

/-- The completed records keep the frame's generation, and are published all together (R120). -/
theorem RecordsCoherent.complete {s : State} (h : RecordsCoherent s) :
    RecordsCoherent (s.setEngine s.engine.complete) := by
  cases hsnapshot : s.engine.snapshot with
  | none =>
    have hkept : s.engine.complete = s.engine := by simp only [Engine.complete, hsnapshot]
    exact h.congr hkept rfl
  | some p =>
    have legal (i : Nat) : RecordLegal ((completeRecords p s.engine.frame).read i) := by
      rw [read_completeRecords]
      split
      · exact (h.frameLegal i).completedRecord p i
      · exact recordLegal_initial
    have generation (i : Nat) (hi : i < 96) :
        ((completeRecords p s.engine.frame).read i).generation = s.live.generation := by
      rw [read_completeRecords, if_pos hi, completedRecord_generation]
      exact h.frameGeneration i hi
    rw [Engine.complete_of_snapshot hsnapshot]
    exact ⟨legal, legal, generation, ⟨_, generation⟩, fun _ _ _ => rfl, nofun⟩

/-! ## The rows that leave the Price Engine alone -/

@[simp] theorem endDrain_engine (c : LoadChannel) (s : State) : (endDrain c s).engine = s.engine := by
  rw [endDrain_eq]; rfl

@[simp] theorem blankFrame_engine (s : State) : (blankFrame s).engine = s.engine := by
  unfold blankFrame
  split <;> rfl

theorem write_engine (payload : List Byte) (s : State) : (write payload s).engine = s.engine := by
  rcases write_cases payload s with ⟨code, e⟩ | ⟨c, -, -, -, hw⟩
  · rw [e]
    rfl
  · have entries : (writeEntries c.table (chunks c.table.entryBytes (payload.length / c.table.entryBytes) payload)
        c.index s).1.engine = s.engine := by
      refine writeEntries_keeps (P := fun _ t => t.engine = s.engine) ?_ _ _ _ rfl
      intro _ index u v hu _ _
      rcases writeEffect_cases c.table index (u.setSetup v) with ⟨-, e⟩ | ⟨-, e⟩ | ⟨-, -, e⟩ <;> rw [e] <;> exact hu
    rcases hw with e | ⟨code, e⟩ <;> rw [e] <;> exact entries

/-- No packet reaches the Price Engine (R13). -/
theorem ownerActs_engine (kind : PacketKind) (broadcast : Bool) (payload : List Byte) (s : State) :
    (ownerActs kind broadcast payload s).engine = s.engine := by
  refine ownerActs_keeps (P := fun t => t.engine = s.engine) broadcast payload rfl (fun _ _ _ hu => hu) ?select
    (write_engine payload s) ?query ?stage ?sealing rfl rfl (fun _ => rfl) ?status ?time ?restart ?opening ?data ?ending
    ?abort ?node rfl (softResetBlocks_engine s) kind
  case select => intro t h; obtain ⟨_, -, rfl⟩ := select_ok h; rfl
  case query => intro t h; obtain ⟨-, rfl | ⟨_, rfl⟩⟩ := query_ok h <;> rfl
  case stage => intro t h; obtain ⟨_, -, rfl⟩ := stage_ok h; rfl
  case sealing => intro t h; obtain ⟨_, -, -, rfl⟩ := sealBatch_ok h; rfl
  case status => intro t h; obtain ⟨_, -, rfl⟩ := statusNow_ok h; rfl
  case time => intro t h; obtain ⟨-, rfl⟩ | ⟨-, _, _, -, -, rfl⟩ := setTime_ok h <;> rfl
  case restart => intro t h; obtain ⟨_, rfl⟩ := groupRestart_ok h; rfl
  case opening => intro t h; obtain ⟨_, _, _, -, -, -, -, rfl⟩ := loadOpen_ok h; rfl
  case data => intro t h; obtain ⟨_, -, -, rfl⟩ := loadData_ok h; exact endDrain_engine _ _
  case ending => intro t h; obtain ⟨_, -, rfl⟩ := loadEnd_ok h; exact endDrain_engine _ _
  case abort => intro t h; obtain rfl | ⟨_, -, rfl⟩ := loadAbort_ok h <;> rfl
  case node => intro t h; obtain ⟨_, -, rfl⟩ := setNode_ok h; rfl

theorem grant_engine {check : ReadCheck} {s t : State} (h : exec (.grant check) s = .next t) :
    t.engine = s.engine := by
  rcases execGrant_cases check s with ⟨-, e⟩ | ⟨-, e⟩ | ⟨c, -, e⟩ <;> rw [e] at h
  · cases h; rfl
  · rcases readBurst_cases check (s.setArbiter (windowAfter s false)) with
      ⟨-, e⟩ | ⟨_, _, -, ⟨-, e⟩ | ⟨-, ⟨-, e⟩ | ⟨-, e⟩ | ⟨-, e⟩⟩⟩ <;> rw [e] at h <;> cases h <;> rfl
  · rcases writeBurst_cases c (s.setArbiter (windowAfter s true)) with ⟨-, e⟩ | ⟨_, _, -, ⟨-, e⟩ | ⟨-, e⟩⟩ <;>
      rw [e] at h <;> cases h
    · rfl
    · simp only [endDrain_engine, State.setPictures_engine, State.setMemory_engine, State.setArbiter_engine]

theorem lineOutputStart_engine {input : List Rgb} {s t : State} (h : exec (.lineOutputStart input) s = .next t) :
    t.engine = s.engine := by
  replace h : execLineOutputStart input s = .next t := h
  rcases execLineOutputStart_cases input s with ⟨-, e⟩ | ⟨-, e⟩ | e <;> rw [e] at h <;> cases h
  · rw [fetchLine_engine, composeLine_eq]
    rfl
  · rfl
  · rfl

/-- Every row but COMPLETION_EVENT and those of the timing unit and the resets leaves the Price Engine alone. -/
theorem exec_engine {c : Instr} (htiming : timingRow c = false) (hcompletion : c ≠ .completionEvent) {s t : State}
    (h : exec c s = .next t) : t.engine = s.engine := by
  cases hp : packet c with
  | some q =>
    obtain ⟨kind, broadcast, payload⟩ := q
    rw [exec_of_packet hp] at h
    cases h
    exact ownerActs_engine kind broadcast payload s
  | none =>
    cases c with
    | completionEvent => exact absurd rfl hcompletion
    | badKind _ => cases h; rfl
    | grant check => exact grant_engine h
    | lineOutputStart input => exact lineOutputStart_engine h
    | drainEnd channel => cases h; exact endDrain_engine channel s
    | stallAbort _ => cases h; rfl
    | lineFetchComplete => cases h; rfl
    | windowClose => cases h; rfl
    | groupStep _ => cases h; split <;> rfl
    | replyStart readings =>
      replace h : execReplyStart readings s = .next t := h
      rcases execReplyStart_cases readings s with e | ⟨_, _, _, _, _, -, -, ⟨-, -, e⟩ | e⟩ <;> rw [e] at h <;>
        cases h <;> rfl
    | replyTimeout => cases h; split <;> [split; skip] <;> rfl
    | collision => cases h; split <;> [split; skip] <;> rfl
    | replyEnd => cases h; split <;> [split; skip] <;> rfl
    | clockAdvance _ => cases h; rfl
    | _ => simp [packet, timingRow] at hp htiming

/-! ## Every row -/

theorem RecordsCoherent.ownerActs {s : State} (h : RecordsCoherent s) (kind : PacketKind) (broadcast : Bool)
    (payload : List Byte) : RecordsCoherent (ownerActs kind broadcast payload s) :=
  h.congr (ownerActs_engine kind broadcast payload s) (FrameGoesOn.ownerActs kind broadcast payload s).live

theorem exec_recordsCoherent {c : Instr} {s t : State} (h : RecordsCoherent s) (ht : exec c s = .next t) :
    RecordsCoherent t := by
  cases hc : timingRow c with
  | false =>
    by_cases hcompletion : c = .completionEvent
    · subst hcompletion
      cases ht
      split
      · exact h.complete
      · exact h
    · exact h.congr (exec_engine hc hcompletion ht) (exec_goesOn hc ht).1.live
  | true =>
    cases c with
    | powerOn straps => cases ht; exact reset_recordsCoherent.congr rfl rfl
    | boardReset straps => cases ht; exact reset_recordsCoherent.congr rfl rfl
    | resetComplete =>
      rcases exec_resetComplete_cases s with e | ⟨-, e⟩ <;> rw [e] at ht <;> cases ht
      · exact h
      · exact .frameBoundary (s := leaveReset s) (h.congr rfl rfl) _
    | carrierLine pixels =>
      exact carrierLine_keeps (P := RecordsCoherent) (fun _ _ hu => hu.congr rfl rfl) (fun _ hu => hu.congr rfl rfl)
        (fun kind broadcast payload _ hu => hu.ownerActs kind broadcast payload) h ht
    | firstActiveLine width =>
      cases ht
      split
      · exact h.congr (blankFrame_engine _) (blankFrame_live _)
      · exact h
    | inputFrameStart a b =>
      rcases exec_inputFrameStart_cases a b s with e | ⟨_, e⟩ | ⟨source, timing, e⟩ <;> rw [e] at ht <;> cases ht
      · exact h
      · exact h.congr rfl rfl
      · exact .frameBoundary (s := (openInterval s).setTiming timing) (h.congr rfl rfl) source
    | inputTimeout =>
      rcases exec_inputTimeout_cases s with e | ⟨-, ⟨-, e⟩ | ⟨-, e⟩⟩ <;> rw [e] at ht <;> cases ht
      · exact h
      · exact h.congr rfl rfl
      · exact .frameBoundary (s := inputLost s) (h.congr rfl rfl) _
    | generatorFrameEnd =>
      rcases exec_generatorFrameEnd_cases s with e | ⟨-, source, -, e⟩ <;> rw [e] at ht <;> cases ht
      · exact h
      · exact h.frameBoundary source
    | _ => simp [timingRow] at hc

/-- Settles O6: a boundary settles the records anew, the completion event completes and publishes them, a reset empties
them, and no other row touches them or the live state. -/
theorem recordsStayCoherent : Obligations.RecordsStayCoherent :=
  step_keeps (fun _ _ h => h.congr rfl rfl) fun _ _ _ h he => exec_recordsCoherent h he

end Sys2Proof.Machine
end

section
/-! SUPPORT. The load channels and the tile directory in agreement (R141, R143): what keeps a channel as R143 describes
it, and what keeps the two channels and the directory together. -/

namespace Sys2Proof.Machine

/-! ## A channel's own moves -/

theorem Channel.targets_iff {x : Channel} {t : Byte} : x.targets t = true ↔ x.state ≠ .idle ∧ x.tile = t := by
  simp [Channel.targets]

/-- Which tile a channel targets is a matter of whether it has a load, and of its tile (R141). -/
theorem Channel.targets_congr {x y : Channel} (hbusy : x.state ≠ .idle) (hbusy' : y.state ≠ .idle)
    (htile : y.tile = x.tile) (t : Byte) : y.targets t = x.targets t := by
  rw [Bool.eq_iff_iff, Channel.targets_iff, Channel.targets_iff]
  simp [hbusy, hbusy', htile]

/-- A channel with a load in progress as R143 describes it, save that an ENDING one may have no word left: what an event
leaves before the drain it may have emptied is ended (R150). -/
structure Channel.Running (x : Channel) : Prop where
  busy : x.state ≠ .idle
  opened : x.state = .opened → x.stall < 120 ∧ x.endRows = none
  ending : x.state = .ending → x.holding = []
  received : x.received ≤ x.byteCount
  whole : x.byteCount % x.format.bytesPerPixel = 0
  split : x.state = .opened → x.holding.length = x.received % x.format.bytesPerPixel
  holding : x.holding.length ≤ 3
  buffer : x.buffer.length ≤ 1024

theorem ChannelLegal.running {x : Channel} (h : ChannelLegal x) (hbusy : x.state ≠ .idle) : x.Running where
  busy := hbusy
  opened := h.opened
  ending := fun hending => (h.ending hending).2
  received := h.received
  whole := h.whole
  split := h.split
  holding := h.holding
  buffer := h.buffer

theorem Channel.Running.legal {x : Channel} (h : x.Running) (hwords : x.state = .ending → x.buffer ≠ []) :
    ChannelLegal x where
  idle := fun hidle => absurd hidle h.busy
  opened := h.opened
  ending := fun hending => ⟨hwords hending, h.ending hending⟩
  received := h.received
  whole := h.whole
  split := h.split
  holding := h.holding
  buffer := h.buffer

/-- A channel without a load, as R143 describes it: nothing is left of the load but its counts. -/
theorem channelLegal_of_idle {x : Channel} (hidle : x.state = .idle) (hholding : x.holding = [])
    (hbuffer : x.buffer = []) (hstall : x.stall = 0) (hrows : x.endRows = none) (hreceived : x.received ≤ x.byteCount)
    (hwhole : x.byteCount % x.format.bytesPerPixel = 0) : ChannelLegal x where
  idle := fun _ => ⟨hholding, hbuffer, hstall, hrows⟩
  opened := fun hopen => by simp [hidle] at hopen
  ending := fun hending => by simp [hidle] at hending
  received := hreceived
  whole := hwhole
  split := fun hopen => by simp [hidle] at hopen
  holding := by simp [hholding]
  buffer := by simp [hbuffer]

theorem ChannelLegal.retire {x : Channel} (h : ChannelLegal x) : ChannelLegal x.retire :=
  channelLegal_of_idle rfl rfl rfl rfl rfl h.received h.whole

theorem Channel.Running.retire {x : Channel} (h : x.Running) : ChannelLegal x.retire :=
  channelLegal_of_idle rfl rfl rfl rfl rfl h.received h.whole

theorem ChannelLegal.reset {x : Channel} (h : ChannelLegal x) : ChannelLegal x.reset :=
  channelLegal_of_idle rfl rfl rfl rfl rfl (Nat.zero_le _) h.whole

/-- A channel just opened has all of its load to come (R145). -/
theorem Channel.opening_running (x : Channel) (tile : Byte) (f : SourceFormat) (e : TileEntry) :
    (x.opening tile f e).Running where
  busy := by simp [Channel.opening]
  opened := fun _ => ⟨Nat.zero_lt_succ _, rfl⟩
  ending := fun _ => rfl
  received := Nat.zero_le _
  whole := Nat.mul_mod_left _ _
  split := fun _ => rfl
  holding := Nat.zero_le _
  buffer := Nat.zero_le _

theorem Channel.taking_length (x : Channel) (data : List Byte) :
    (x.taking data).length = min (x.byteCount - x.received) data.length := by
  simp [Channel.taking]

theorem Channel.take_buffer_length (x : Channel) (base : Nat) (data : List Byte) :
    (x.take base data).buffer.length = x.buffer.length + x.completes data := by
  simp [Channel.take, formWords_length, chunks_length]

/-- Data within the buffer's room keep the channel as R143 describes it; the last byte of the load leaves none waiting
(R146, R147). -/
theorem Channel.Running.take {x : Channel} (h : x.Running) (hopen : x.state = .opened) (base : Nat) {data : List Byte}
    (hroom : 4 * x.completes data ≤ 4096 - 4 * x.buffer.length) : (x.take base data).Running := by
  have hsplit := Channel.take_holding_length base data (h.split hopen)
  have hpixel := x.format.bytesPerPixel_pos
  have hrows : x.endRows = none := (h.opened hopen).2
  refine ⟨?_, fun _ => ⟨Nat.zero_lt_succ _, hrows⟩, fun hending => ?_, ?_, h.whole, fun _ => hsplit, ?_, ?_⟩
  · show (if x.received + (x.taking data).length = x.byteCount then ChannelState.ending else x.state) ≠ .idle
    split
    · decide
    · exact h.busy
  · have hall : x.received + (x.taking data).length = x.byteCount := by
      by_contra hlacks
      have hstate : (x.take base data).state = x.state := if_neg hlacks
      simp [hstate, hopen] at hending
    have hnone : (x.take base data).holding.length = 0 := by
      rw [hsplit]
      show (x.received + (x.taking data).length) % x.format.bytesPerPixel = 0
      rw [hall, h.whole]
    exact List.length_eq_zero_iff.1 hnone
  · show x.received + (x.taking data).length ≤ x.byteCount
    have := h.received
    have := x.taking_length data
    omega
  · have := Nat.mod_lt (x.take base data).received hpixel.1
    rw [hsplit]
    omega
  · rw [Channel.take_buffer_length]
    have := h.buffer
    omega

/-- A load cut to its complete rows (R151). -/
theorem Channel.Running.cut {x : Channel} (h : x.Running) (e : TileEntry) : (x.cut e).Running where
  busy := by simp [Channel.cut]
  opened := fun hopen => by simp [Channel.cut] at hopen
  ending := fun _ => rfl
  received := h.received
  whole := h.whole
  split := fun hopen => by simp [Channel.cut] at hopen
  holding := by simp [Channel.cut]
  buffer := Nat.le_trans (List.length_filter_le _ _) h.buffer

theorem behindFront_sublist (l : List BufferedWord) : (behindFront l).Sublist l := by
  cases l with
  | nil => exact .refl _
  | cons w rest => exact (List.dropWhile_sublist _).trans (List.sublist_cons_self _ _)

/-- A channel whose front burst has been written (R149). -/
theorem Channel.Running.behindFront {x : Channel} (h : x.Running) :
    ({ x with buffer := behindFront x.buffer } : Channel).Running :=
  { h with buffer := Nat.le_trans (behindFront_sublist _).length_le h.buffer }

/-- A boundary that does not bring an OPEN channel to 120 counts on it (R153). -/
theorem Channel.Running.count {x : Channel} (h : x.Running) (hstall : x.stall < 119) :
    ({ x with stall := x.stall + 1 } : Channel).Running :=
  { h with opened := fun hopen => ⟨Nat.succ_lt_succ hstall, (h.opened hopen).2⟩ }

/-! ## The directory and the two channels -/

theorem LoadChannel.eq_or_other (c d : LoadChannel) : d = c ∨ d = otherChannel c := by
  cases c <;> cases d <;> simp [otherChannel]

theorem otherChannel_ne (c : LoadChannel) : otherChannel c ≠ c := by cases c <;> simp [otherChannel]

/-- What holds of a channel and of the other one holds of both. -/
theorem LoadChannel.forall_of_other {P : LoadChannel → Prop} (c : LoadChannel) (h : P c) (h' : P (otherChannel c)) :
    ∀ d, P d := fun d => (LoadChannel.eq_or_other c d).elim (· ▸ h) (· ▸ h')

theorem Pictures.read_setTile (p : Pictures) (t k : Byte) (r : TileRecord) :
    (p.setTile t r).directory.read k.toNat = if k = t then r else p.directory.read k.toNat := by
  rw [Pictures.setTile, Table.read_write]
  simp only [BitVec.toNat_inj]

/-- `LoadsCoherent`, of the Picture Loader alone and of either channel alike (R141, R143). -/
structure Pictures.Coherent (p : Pictures) : Prop where
  loading : ∀ t : Byte, (p.directory.read t.toNat).state = .loading ↔ ∃ c, (p.channel c).targets t = true
  apart : ∀ (c d : LoadChannel) (t : Byte), (p.channel c).targets t = true → (p.channel d).targets t = true → c = d
  legal : ∀ c, ChannelLegal (p.channel c)

theorem loadsCoherent_iff {s : State} : LoadsCoherent s ↔ s.pictures.Coherent := by
  have either (t : Byte) : (∃ c, (s.pictures.channel c).targets t = true) ↔
      (s.pictures.channelA.targets t = true ∨ s.pictures.channelB.targets t = true) :=
    ⟨fun ⟨c, hc⟩ => by cases c; exacts [.inl hc, .inr hc], fun h => h.elim (⟨.a, ·⟩) (⟨.b, ·⟩)⟩
  constructor
  · rintro ⟨loading, apart, legalA, legalB⟩
    refine ⟨fun t => (loading t).trans (either t).symm, fun c d t hc hd => ?_, fun c => ?_⟩
    · cases c <;> cases d
      · rfl
      · exact absurd ⟨hc, hd⟩ (apart t)
      · exact absurd ⟨hd, hc⟩ (apart t)
      · rfl
    · cases c; exacts [legalA, legalB]
  · rintro ⟨loading, apart, legal⟩
    exact ⟨fun t => (loading t).trans (either t), fun t ⟨ha, hb⟩ => (by cases apart .a .b t ha hb), legal .a, legal .b⟩

section
variable {p q : Pictures} {c : LoadChannel} {x : Channel}

/-- Channels that keep their targets, legal channels, and a directory that keeps its LOADING tiles. -/
theorem Pictures.Coherent.of_targets (h : p.Coherent)
    (hloading : ∀ t : Byte, (q.directory.read t.toNat).state = .loading ↔ (p.directory.read t.toNat).state = .loading)
    (htargets : ∀ d t, (q.channel d).targets t = (p.channel d).targets t) (hlegal : ∀ d, ChannelLegal (q.channel d)) :
    q.Coherent where
  loading t := by simp only [hloading, htargets, h.loading]
  apart c d t := by rw [htargets, htargets]; exact h.apart c d t
  legal := hlegal

/-- The counters have no part in it. -/
theorem Pictures.Coherent.congr (h : p.Coherent) (hdirectory : q.directory = p.directory)
    (hchannel : ∀ d, q.channel d = p.channel d) : q.Coherent :=
  h.of_targets (fun t => by rw [hdirectory]) (fun d t => by rw [hchannel]) fun d => hchannel d ▸ h.legal d

/-- A tile that is not LOADING given a record that is not (R142, R154). -/
theorem Pictures.Coherent.setTile (h : p.Coherent) {t : Byte} {r : TileRecord}
    (ht : (p.directory.read t.toNat).state ≠ .loading) (hr : r.state ≠ .loading) : (p.setTile t r).Coherent := by
  refine h.of_targets (fun k => ?_) (fun d t => by simp) fun d => by simpa using h.legal d
  rw [Pictures.read_setTile]
  split
  · rename_i hk
    simp [hk, ht, hr]
  · rfl

/-- A channel that goes on loading its tile. -/
theorem Pictures.Coherent.setChannel (h : p.Coherent) (hbusy : (p.channel c).state ≠ .idle)
    (hx : ChannelLegal x) (hbusy' : x.state ≠ .idle) (htile : x.tile = (p.channel c).tile) :
    (p.setChannel c x).Coherent := by
  refine h.of_targets (fun t => by simp) ?_ ?_
  · refine LoadChannel.forall_of_other c (fun t => ?_) fun t => by simp
    rw [Pictures.channel_setChannel]
    exact Channel.targets_congr hbusy hbusy' htile t
  · refine LoadChannel.forall_of_other c ?_ ?_
    · rwa [Pictures.channel_setChannel]
    · rw [Pictures.channel_setChannel_other]
      exact h.legal _

/-- The other channel's targets, where a channel has a load. -/
theorem Pictures.Coherent.other_targets (h : p.Coherent) (hbusy : (p.channel c).state ≠ .idle) :
    (p.channel (otherChannel c)).targets (p.channel c).tile = false := by
  by_contra htargets
  exact otherChannel_ne c (h.apart _ c _ (by simpa using htargets) (Channel.targets_iff.2 ⟨hbusy, rfl⟩))

/-- A load that is over: its channel IDLE, its tile no longer LOADING (R150, R152, R153). -/
theorem Pictures.Coherent.finish (h : p.Coherent) (hbusy : (p.channel c).state ≠ .idle) {r : TileRecord}
    (hr : r.state ≠ .loading) (hx : ChannelLegal x) (hidle : x.state = .idle) :
    ((p.setTile (p.channel c).tile r).setChannel c x).Coherent := by
  have free (t : Byte) : x.targets t = false := by simp [Channel.targets, hidle]
  have other : ∀ t : Byte, (∃ d, (((p.setTile (p.channel c).tile r).setChannel c x).channel d).targets t = true) ↔
      (p.channel (otherChannel c)).targets t = true := by
    refine fun t => ⟨fun ⟨d, hd⟩ => ?_, fun ht => ⟨otherChannel c, by simpa using ht⟩⟩
    obtain rfl | rfl := LoadChannel.eq_or_other c d
    · simp [free] at hd
    · simpa using hd
  refine ⟨fun t => ?_, fun d e t hd he => ?_,
    LoadChannel.forall_of_other c (by simpa using hx) (by simpa using h.legal _)⟩
  · rw [other, Pictures.setChannel_directory, Pictures.read_setTile]
    split
    · rename_i ht
      subst ht
      simp [hr, h.other_targets hbusy]
    · rename_i ht
      rw [h.loading]
      refine ⟨fun ⟨d, hd⟩ => ?_, fun ht => ⟨_, ht⟩⟩
      obtain rfl | rfl := LoadChannel.eq_or_other c d
      · exact absurd (Channel.targets_iff.1 hd).2 (Ne.symm ht)
      · exact hd
  · have only (f : LoadChannel)
        (hf : (((p.setTile (p.channel c).tile r).setChannel c x).channel f).targets t = true) : f = otherChannel c := by
      obtain rfl | rfl := LoadChannel.eq_or_other c f
      · simp [free] at hf
      · rfl
    rw [only d hd, only e he]

/-- A load that begins: an IDLE channel takes a tile that the other one does not target (R144, R145). -/
theorem Pictures.Coherent.begin (h : p.Coherent) (hidle : (p.channel c).state = .idle)
    {t : Byte} (hother : (p.channel (otherChannel c)).targets t = false) {r : TileRecord} (hr : r.state = .loading)
    (hx : ChannelLegal x) (hbusy : x.state ≠ .idle) (htile : x.tile = t) :
    ((p.setTile t r).setChannel c x).Coherent := by
  subst htile
  have free (k : Byte) : (p.channel c).targets k = false := by simp [Channel.targets, hidle]
  have new : ((p.setTile x.tile r).setChannel c x).channel c = x := by simp
  have old : ((p.setTile x.tile r).setChannel c x).channel (otherChannel c) = p.channel (otherChannel c) := by simp
  refine ⟨fun k => ?_, fun d e k hd he => ?_, LoadChannel.forall_of_other c (new.symm ▸ hx) (old.symm ▸ h.legal _)⟩
  · rw [Pictures.setChannel_directory, Pictures.read_setTile]
    split
    · rename_i hk
      exact ⟨fun _ => ⟨c, by rw [new]; exact Channel.targets_iff.2 ⟨hbusy, hk.symm⟩⟩, fun _ => hr⟩
    · rename_i hk
      rw [h.loading]
      refine ⟨fun ⟨d, hd⟩ => ?_, fun ⟨d, hd⟩ => ?_⟩ <;> obtain rfl | rfl := LoadChannel.eq_or_other c d
      · simp [free] at hd
      · exact ⟨_, old.symm ▸ hd⟩
      · rw [new] at hd
        exact absurd (Channel.targets_iff.1 hd).2.symm hk
      · exact ⟨_, old ▸ hd⟩
  · have clash (hc : (((p.setTile x.tile r).setChannel c x).channel c).targets k = true)
        (ho : (((p.setTile x.tile r).setChannel c x).channel (otherChannel c)).targets k = true) : False := by
      rw [new] at hc
      rw [old, ← (Channel.targets_iff.1 hc).2, hother] at ho
      cases ho
    rcases LoadChannel.eq_or_other c d with rfl | hd'
    · rcases LoadChannel.eq_or_other d e with he' | rfl
      · exact he'.symm
      · exact (clash hd he).elim
    · subst hd'
      rcases LoadChannel.eq_or_other c e with rfl | he'
      · exact (clash he hd).elim
      · exact he'.symm

end

end Sys2Proof.Machine
end

section
/-! SUPPORT. Pictures within picture memory (R138, R144): what keeps the Picture Loader's channels and READY tiles
there, and the events of a load one by one: data, the end of a drain, an abort, a boundary, a reset. -/

namespace Sys2Proof.Machine

/-! ## What has its place in the memory -/

/-- So many rows are rows of the tile, and its whole picture lies in picture memory (R138, R141). -/
def TileEntry.Holds (e : TileEntry) (rows : Nat) : Prop :=
  rows ≤ e.height.toNat ∧ e.base.toNat + e.pixels * 4 ≤ memoryBytes

/-- An entry of a fetch list of which a burst is left, its span within picture memory (R158). -/
def FetchEntry.Safe (e : FetchEntry) : Prop := e.nextBurst * 32 < e.past ∧ e.past ≤ memoryBytes

/-- The tiles latched for the slots of the frame hold the rows latched (R157). -/
def LatchSafe (s : State) : Prop :=
  ∀ (t : Byte) (rows : Nat), s.fetch.tileLatch.read t.toNat = some rows → tileShown s t = true →
    (s.setup.tiles.read t.toNat).Holds rows

/-- The Picture Loader's part of `PictureSafe`, with the TILES entries of a state. -/
structure Pictures.Safe (s : State) (p : Pictures) : Prop where
  coherent : p.Coherent
  directory : p.directory.wf = true
  ready : ∀ t : Byte, (p.directory.read t.toNat).state = .ready →
    (s.setup.tiles.read t.toNat).Holds (p.directory.read t.toNat).validRows
  channels : ∀ c, ChannelSafe s (p.channel c)

theorem pictureSafe_iff {s : State} :
    PictureSafe s ↔ s.pictures.Safe s ∧ LatchSafe s ∧ ∀ e ∈ s.fetch.todo, e.Safe := by
  constructor
  · rintro ⟨loads, directory, ready, latched, bursts, channelA, channelB⟩
    exact ⟨⟨loadsCoherent_iff.1 loads, directory, ready, fun c => by cases c; exacts [channelA, channelB]⟩, latched,
      bursts⟩
  · rintro ⟨⟨coherent, directory, ready, channels⟩, latched, bursts⟩
    exact ⟨loadsCoherent_iff.2 coherent, directory, ready, latched, bursts, channels .a, channels .b⟩

/-! ## A channel's words -/

/-- A channel's words are a matter of its own tile's entry. -/
theorem ChannelSafe.of_entry_eq {s t : State} {x : Channel} (h : ChannelSafe s x)
    (hentry : t.setup.tiles.read x.tile.toNat = s.setup.tiles.read x.tile.toNat) : ChannelSafe t x := by
  obtain ⟨footprint, byteCount, endRows, words⟩ := h
  constructor <;> simpa only [hentry]

theorem ChannelSafe.of_tiles_eq {s t : State} {x : Channel} (h : ChannelSafe s x)
    (htiles : t.setup.tiles = s.setup.tiles) : ChannelSafe t x := h.of_entry_eq (by rw [htiles])

/-- A channel without a load has nothing to write. -/
theorem ChannelLegal.safe_of_idle {x : Channel} (h : ChannelLegal x) (hidle : x.state = .idle) (s : State) :
    ChannelSafe s x := by
  obtain ⟨-, hbuffer, -, hrows⟩ := h.idle hidle
  exact ⟨fun hbusy => absurd hidle hbusy, fun hbusy => absurd hidle hbusy, fun k hk => by simp [hrows] at hk,
    fun w hw => by simp [hbuffer] at hw⟩

/-- A channel goes on with its load: the place and the size of the picture stay. -/
theorem ChannelSafe.goOn {s : State} {x y : Channel} (h : ChannelSafe s x) (hbusy : x.state ≠ .idle)
    (htile : y.tile = x.tile) (hformat : y.format = x.format) (hcount : y.byteCount = x.byteCount)
    (hrows : ∀ k, y.endRows = some k → k ≤ (s.setup.tiles.read x.tile.toNat).height.toNat)
    (hwords : ∀ w ∈ y.buffer, w.address < memoryBytes) : ChannelSafe s y where
  footprint _ := by rw [htile]; exact h.footprint hbusy
  byteCount _ := by rw [htile, hformat, hcount]; exact h.byteCount hbusy
  endRows k hk := by rw [htile]; exact hrows k hk
  words := hwords

/-- The pixels formed so far are the whole pixels received (R147). -/
theorem Channel.formed_eq {x : Channel} (hsplit : x.holding.length = x.received % x.format.bytesPerPixel) :
    x.formed = x.received / x.format.bytesPerPixel := by
  have hdiv := Nat.div_add_mod x.received x.format.bytesPerPixel
  rw [Channel.formed, hsplit, show x.received - x.received % x.format.bytesPerPixel =
    x.format.bytesPerPixel * (x.received / x.format.bytesPerPixel) by omega]
  exact Nat.mul_div_cancel_left _ x.format.bytesPerPixel_pos.1

/-- With the pixels that a LOAD_DATA completes they are the whole pixels received then (R147). -/
theorem Channel.formed_add_completes {x : Channel} (hsplit : x.holding.length = x.received % x.format.bytesPerPixel)
    (data : List Byte) :
    x.formed + x.completes data = (x.received + (x.taking data).length) / x.format.bytesPerPixel := by
  have hpos := x.format.bytesPerPixel_pos.1
  have hdiv := Nat.div_add_mod x.received x.format.bytesPerPixel
  rw [Channel.formed_eq hsplit, Channel.completes, Channel.loose, List.length_append, hsplit,
    ← Nat.mul_add_div hpos]
  congr 1
  omega

section
variable {s : State} {x : Channel} (h : ChannelSafe s x) (hrun : x.Running) (hopen : x.state = .opened)
include h hrun hopen

/-- No more pixels are formed than the tile has (R145, R147). -/
theorem ChannelSafe.formed_add_completes_le (data : List Byte) :
    x.formed + x.completes data ≤ (s.setup.tiles.read x.tile.toNat).pixels := by
  have hreceived : x.received + (x.taking data).length ≤ x.byteCount := by
    have := hrun.received
    have := x.taking_length data
    omega
  rw [Channel.formed_add_completes (hrun.split hopen)]
  calc (x.received + (x.taking data).length) / x.format.bytesPerPixel
      ≤ x.byteCount / x.format.bytesPerPixel := Nat.div_le_div_right hreceived
    _ = (s.setup.tiles.read x.tile.toNat).pixels := by
      rw [h.byteCount hrun.busy, Nat.mul_div_cancel _ x.format.bytesPerPixel_pos.1]

/-- The words that data form go to pixels of the tile (R147). -/
theorem ChannelSafe.take (data : List Byte) :
    ChannelSafe s (x.take (s.setup.tiles.read x.tile.toNat).base.toNat data) := by
  refine h.goOn hrun.busy rfl rfl rfl h.endRows fun w hw => ?_
  rcases List.mem_append.1 hw with hold | hnew
  · exact h.words w hold
  · rw [formWords_eq, chunks_length] at hnew
    obtain ⟨j, hj, rfl⟩ := List.mem_map.1 hnew
    have hlt : j < x.completes data := List.mem_range.1 hj
    have hpixels := h.formed_add_completes_le hrun hopen data
    have hfits := h.footprint hrun.busy
    show (s.setup.tiles.read x.tile.toNat).base.toNat + 4 * (x.formed + j) < memoryBytes
    omega

/-- A load is cut to rows that the tile has (R151). -/
theorem ChannelSafe.cut : ChannelSafe s (x.cut (s.setup.tiles.read x.tile.toNat)) := by
  refine h.goOn hrun.busy rfl rfl rfl (fun k hk => ?_) fun w hw => h.words w (List.mem_of_mem_filter hw)
  obtain rfl : x.completeRows (s.setup.tiles.read x.tile.toNat) = k := Option.some.inj hk
  have hpixels := Nat.le_trans (Nat.le_add_right _ _) (h.formed_add_completes_le hrun hopen [])
  rw [TileEntry.pixels, Nat.mul_comm] at hpixels
  exact Nat.div_le_of_le_mul (by rwa [Nat.mul_comm])

end

/-- What is left behind the front burst was there before (R149). -/
theorem ChannelSafe.behindFront {s : State} {x : Channel} (h : ChannelSafe s x) (hbusy : x.state ≠ .idle) :
    ChannelSafe s { x with buffer := behindFront x.buffer } :=
  h.goOn hbusy rfl rfl rfl h.endRows fun w hw => h.words w ((behindFront_sublist _).subset hw)

/-- A load that LOAD_OPEN admits lies in picture memory (R144, R145). -/
theorem channelSafe_opening {s : State} {tile : Byte}
    (hroom : (s.setup.tiles.read tile.toNat).base.toNat + (s.setup.tiles.read tile.toNat).pixels * 4 ≤ memoryBytes)
    (x : Channel) (f : SourceFormat) : ChannelSafe s (x.opening tile f (s.setup.tiles.read tile.toNat)) where
  footprint _ := hroom
  byteCount _ := rfl
  endRows _ hk := by cases hk
  words _ hw := by cases hw

/-! ## A boundary and a reset, channel by channel -/

/-- A boundary's part of one channel: its stall count, and the abort it may call for (R153). -/
def Pictures.countOn (p : Pictures) (c : LoadChannel) : Pictures :=
  stallOut c (p.setChannel c (p.channel c).countBoundary)

/-- Everything a boundary can do to a channel: nothing, count on it, or abort its load (R153). -/
theorem Pictures.countOn_cases (p : Pictures) (c : LoadChannel) :
    ((p.channel c).state ≠ .opened ∧ p.countOn c = p) ∨
    ((p.channel c).state = .opened ∧ (p.channel c).stall < 119 ∧
      p.countOn c = p.setChannel c { p.channel c with stall := (p.channel c).stall + 1 }) ∨
    ((p.channel c).state = .opened ∧ 119 ≤ (p.channel c).stall ∧
      p.countOn c = { p.abort c with stalls := bump p.stalls }) := by
  have same : p.setChannel c (p.channel c) = p := by cases c <;> rfl
  unfold Pictures.countOn
  rcases (p.channel c).countBoundary_cases with ⟨hopen, e⟩ | ⟨hclosed, e⟩ <;> rw [e]
  · refine .inr ?_
    rcases stallOut_cases c (p.setChannel c { p.channel c with stall := (p.channel c).stall + 1 }) with
      ⟨-, hstall, e⟩ | ⟨hgoesOn, e⟩ <;> rw [e]
    · simp only [Pictures.channel_setChannel] at hstall
      exact .inr ⟨hopen, by omega, by cases c <;> rfl⟩
    · simp only [Pictures.channel_setChannel] at hgoesOn
      have hstall := hgoesOn.resolve_left (not_not_intro hopen)
      exact .inl ⟨hopen, by omega, rfl⟩
  · refine .inl ⟨hclosed, ?_⟩
    rw [same]
    rcases stallOut_cases c p with ⟨hopen, -⟩ | ⟨-, e⟩
    · exact absurd hopen hclosed
    · exact e

/-- The channels are counted on independently (R153). -/
theorem Pictures.boundary_eq (p : Pictures) : p.boundary = (p.countOn .a).countOn .b := by
  have counted : stallOut .a { p with
      channelA := p.channelA.countBoundary, channelB := p.channelB.countBoundary } =
      (p.countOn .a).setChannel .b p.channelB.countBoundary := by
    unfold Pictures.countOn stallOut
    dsimp only [Pictures.channel, Pictures.setChannel]
    split <;> rfl
  have other : (p.countOn .a).channel .b = p.channelB := by
    rcases p.countOn_cases .a with ⟨-, e⟩ | ⟨-, -, e⟩ | ⟨-, -, e⟩ <;> rw [e] <;> rfl
  rw [Pictures.boundary, counted, Pictures.countOn.eq_def (p.countOn .a), other]

theorem mem_of_cellsFind {α : Type} {l : List (Nat × α)} {i : Nat} {v : α} (h : cellsFind l i = some v) :
    (i, v) ∈ l := by
  induction l with
  | nil => cases h
  | cons cell l ih =>
    obtain ⟨j, w⟩ := cell
    simp only [cellsFind] at h
    split at h
    · rename_i hj
      exact hj ▸ (Option.some.inj h) ▸ List.mem_cons_self
    · exact List.mem_cons_of_mem _ (ih h)

/-- No entry that satisfies the test is left, whatever form the table has. -/
theorem Table.clearWhere_read {α : Type} {d : α} (t : Table d) {p : α → Bool} (hd : p d = false) (i : Nat) :
    p ((t.clearWhere p).read i) = false := by
  unfold Table.read
  cases h : cellsFind (t.clearWhere p).cells i with
  | none => exact hd
  | some v =>
    have hmem := List.of_mem_filter (mem_of_cellsFind h)
    simpa using hmem

/-- A reset leaves no tile LOADING (R156). -/
theorem Pictures.reset_not_loading (p : Pictures) (i : Nat) : (p.reset.directory.read i).state ≠ .loading := by
  have hclear := p.directory.clearWhere_read (p := fun r => r.state == .loading) rfl i
  exact fun hloading => by simp [Pictures.reset] at hloading; simp [hloading] at hclear

/-! ## What keeps the Picture Loader coherent and safe -/

/-- A change of the Picture Loader that keeps its channels and its directory in agreement, and its pictures where the
TILES entries of `s` have them in picture memory. -/
structure Pictures.Keeps (s : State) (p q : Pictures) : Prop where
  coherent : p.Coherent → q.Coherent
  safe : p.Safe s → q.Safe s

namespace Pictures.Keeps

variable {s : State} {p q r : Pictures} {c : LoadChannel}

theorem refl (s : State) (p : Pictures) : Keeps s p p := ⟨id, id⟩

theorem trans (h : Keeps s p q) (h' : Keeps s q r) : Keeps s p r := ⟨h'.coherent ∘ h.coherent, h'.safe ∘ h.safe⟩

/-- The counters have no part in it (R155). -/
theorem congr (hdirectory : q.directory = p.directory) (hchannel : ∀ d, q.channel d = p.channel d) : Keeps s p q :=
  ⟨(·.congr hdirectory hchannel), fun h => ⟨h.coherent.congr hdirectory hchannel, hdirectory ▸ h.directory,
    by rw [hdirectory]; exact h.ready, fun d => hchannel d ▸ h.channels d⟩⟩

/-- A channel that goes on loading its tile. -/
theorem setChannel {x : Channel} (hbusy : (p.channel c).state ≠ .idle) (htile : x.tile = (p.channel c).tile)
    (hwords : x.state = .ending → x.buffer ≠ []) (hrunning : ChannelLegal (p.channel c) → x.Running)
    (hsafe : ChannelLegal (p.channel c) → ChannelSafe s (p.channel c) → ChannelSafe s x) :
    Keeps s p (p.setChannel c x) := by
  have coherent (h : p.Coherent) : (p.setChannel c x).Coherent :=
    h.setChannel hbusy ((hrunning (h.legal c)).legal hwords) (hrunning (h.legal c)).busy htile
  refine ⟨coherent, fun h => ⟨coherent h.coherent, ?_, ?_, LoadChannel.forall_of_other c ?_ ?_⟩⟩
  · rw [Pictures.setChannel_directory]
    exact h.directory
  · rw [Pictures.setChannel_directory]
    exact h.ready
  · rw [Pictures.channel_setChannel]
    exact hsafe (h.coherent.legal c) (h.channels c)
  · rw [Pictures.channel_setChannel_other]
    exact h.channels _

/-- A load that is over: its channel IDLE, its tile no longer LOADING, and READY with rows it has if at all. -/
theorem finish {x : Channel} {t : TileRecord} (hbusy : (p.channel c).state ≠ .idle) (hidle : x.state = .idle)
    (hlegal : ChannelLegal (p.channel c) → ChannelLegal x) (ht : t.state ≠ .loading)
    (hready : p.Safe s → t.state = .ready → (s.setup.tiles.read (p.channel c).tile.toNat).Holds t.validRows) :
    Keeps s p ((p.setTile (p.channel c).tile t).setChannel c x) := by
  have coherent (h : p.Coherent) : ((p.setTile (p.channel c).tile t).setChannel c x).Coherent :=
    h.finish hbusy ht (hlegal (h.legal c)) hidle
  refine ⟨coherent, fun h => ⟨coherent h.coherent, ?_, fun k => ?_, LoadChannel.forall_of_other c ?_ ?_⟩⟩
  · rw [Pictures.setChannel_directory]
    exact Pictures.wf_setTile _ _ h.directory
  · rw [Pictures.setChannel_directory, Pictures.read_setTile]
    split
    · rename_i hk
      exact hk ▸ hready h
    · exact h.ready k
  · rw [Pictures.channel_setChannel]
    exact (hlegal (h.coherent.legal c)).safe_of_idle hidle s
  · rw [Pictures.channel_setChannel_other, Pictures.channel_setTile]
    exact h.channels _

/-- A load that begins: an IDLE channel takes a tile that the other one does not target (R144, R145). -/
theorem opening {tile : Byte} (hidle : (p.channel c).state = .idle)
    (hother : (p.channel (otherChannel c)).targets tile = false)
    (hroom : (s.setup.tiles.read tile.toNat).base.toNat + (s.setup.tiles.read tile.toNat).pixels * 4 ≤ memoryBytes)
    (f : SourceFormat) : Keeps s p ((p.setTile tile ⟨.loading, 0⟩).setChannel c
      ((p.channel c).opening tile f (s.setup.tiles.read tile.toNat))) := by
  have running := (p.channel c).opening_running tile f (s.setup.tiles.read tile.toNat)
  have coherent (h : p.Coherent) := h.begin hidle hother (r := ⟨.loading, 0⟩) rfl
    (running.legal fun hending => by cases hending) running.busy rfl
  refine ⟨coherent, fun h => ⟨coherent h.coherent, ?_, fun k => ?_, LoadChannel.forall_of_other c ?_ ?_⟩⟩
  · rw [Pictures.setChannel_directory]
    exact Pictures.wf_setTile _ _ h.directory
  · rw [Pictures.setChannel_directory, Pictures.read_setTile]
    split
    · exact fun hready => by cases hready
    · exact h.ready k
  · rw [Pictures.channel_setChannel]
    exact channelSafe_opening hroom _ f
  · rw [Pictures.channel_setChannel_other, Pictures.channel_setTile]
    exact h.channels _

/-- A discarded load (R152). -/
theorem abort (hbusy : (p.channel c).state ≠ .idle) : Keeps s p (p.abort c) :=
  finish (t := TileRecord.initial) hbusy rfl ChannelLegal.retire (by decide) fun _ hready => by cases hready

/-- An event of a channel's load that may end its drain: `u` is the part before that, `x` its channel as the event
leaves it (R149 to R151). -/
theorem endDrain {u : State} {x : Channel} (hbusy : (p.channel c).state ≠ .idle)
    (htiles : u.setup.tiles = s.setup.tiles) (hdirectory : u.pictures.directory = p.directory)
    (hchannel : u.pictures.channel c = x) (hother : u.pictures.channel (otherChannel c) = p.channel (otherChannel c))
    (htile : x.tile = (p.channel c).tile) (hrunning : ChannelLegal (p.channel c) → x.Running)
    (hsafe : ChannelLegal (p.channel c) → ChannelSafe s (p.channel c) → ChannelSafe s x) :
    Keeps s p (endDrain c u).pictures := by
  subst hchannel
  rcases endDrain_cases c u with ⟨hending, -, e⟩ | ⟨hgoesOn, e⟩ <;> rw [e]
  · rw [htiles, htile]
    refine trans (finish hbusy (x := (u.pictures.channel c).retire)
      (t := drainedRecord (u.pictures.channel c).endRows (s.setup.tiles.read (p.channel c).tile.toNat).height.toNat)
      rfl (fun h => (hrunning h).retire) (drainedRecord_not_loading _ _) fun h _ => ?_)
        (congr ?_ (LoadChannel.forall_of_other c ?_ ?_))
    · have hchannel := hsafe (h.coherent.legal c) (h.channels c)
      refine ⟨?_, (h.channels c).footprint hbusy⟩
      rw [drainedRecord_eq]
      split
      · exact Nat.zero_le _
      · cases hrows : (u.pictures.channel c).endRows with
        | none => exact Nat.le_refl _
        | some k => exact htile ▸ hchannel.endRows k hrows
    · simp [Pictures.setTile, hdirectory]
    · simp
    · simp [hother]
  · refine (setChannel hbusy htile (fun hending => hgoesOn.resolve_left (not_not_intro hending)) hrunning hsafe).trans
      (congr ?_ (LoadChannel.forall_of_other c ?_ ?_))
    · simp [hdirectory]
    · simp
    · simp [hother]

theorem stallOut (c : LoadChannel) (p : Pictures) : Keeps s p (stallOut c p) := by
  rcases stallOut_cases c p with ⟨hopen, -, e⟩ | ⟨-, e⟩ <;> rw [e]
  · exact (abort (by simp [hopen])).trans (congr rfl fun d => by cases d <;> rfl)
  · exact refl s p

theorem countOn (c : LoadChannel) (p : Pictures) : Keeps s p (p.countOn c) := by
  rcases p.countOn_cases c with ⟨-, e⟩ | ⟨hopen, hstall, e⟩ | ⟨hopen, -, e⟩ <;> rw [e]
  · exact refl s p
  · have hbusy : (p.channel c).state ≠ .idle := by simp [hopen]
    exact setChannel hbusy rfl (fun hending => by simp [hopen] at hending) (fun h => (h.running hbusy).count hstall)
      fun _ h => h.goOn hbusy rfl rfl rfl h.endRows h.words
  · exact (abort (by simp [hopen])).trans (congr rfl fun d => by cases d <;> rfl)

/-- A frame boundary: both stall counts, and the aborts they call for (R153). -/
theorem boundary (p : Pictures) : Keeps s p p.boundary := by
  rw [Pictures.boundary_eq]
  exact (countOn .a p).trans (countOn .b _)

/-- A fault report makes a READY tile FAULTED, and no other tile anything (R142). -/
theorem reportFault (t : Byte) (p : Pictures) : Keeps s p (p.reportFault t) := by
  unfold Pictures.reportFault
  dsimp only
  split
  · rename_i hready
    have coherent (h : p.Coherent) := h.setTile (t := t)
      (r := { p.directory.read t.toNat with state := .faulted }) (by simp [hready]) (by simp)
    refine ⟨coherent, fun h => ⟨coherent h.coherent, Pictures.wf_setTile _ _ h.directory, fun k => ?_, fun d => ?_⟩⟩
    · rw [Pictures.read_setTile]
      split
      · exact fun hfaulted => by cases hfaulted
      · exact h.ready k
    · rw [Pictures.channel_setTile]
      exact h.channels d
  · exact refl s p

/-- A reset that spares the tiles empties those that are LOADING, and both channels (R156). -/
theorem reset (s : State) (p : Pictures) : Keeps s p p.reset := by
  have channel (d : LoadChannel) : p.reset.channel d = (p.channel d).reset := by cases d <;> rfl
  have coherent (h : p.Coherent) : p.reset.Coherent := by
    have free (d : LoadChannel) (t : Byte) : (p.reset.channel d).targets t = false := by
      simp [channel, Channel.targets, Channel.reset, Channel.retire]
    refine ⟨fun t => ?_, fun c d t hc => by simp [free] at hc, fun d => channel d ▸ (h.legal d).reset⟩
    simp only [free, Bool.false_eq_true, exists_false, iff_false]
    exact p.reset_not_loading t.toNat
  refine ⟨coherent, fun h => ⟨coherent h.coherent, Table.wf_clearWhere _ h.directory, fun t => ?_, fun d => ?_⟩⟩
  · rw [Pictures.reset_directory_read h.directory]
    split
    · exact fun hready => by cases hready
    · exact h.ready t
  · rw [channel]
    exact (h.coherent.legal d).reset.safe_of_idle rfl s

end Pictures.Keeps

end Sys2Proof.Machine
end

section
/-! PROOFS. The loads stay coherent, the pictures in picture memory, and the memory unwritten but by a burst: the rows
one by one (R138, R141, R143, R144, R149, R150, R157). -/

namespace Sys2Proof.Machine

open Sys2Proof.Laws.PacketRow (packet)

/-! ## Safe fetch entries (R157, R158) -/

/-- Where a slot's entry has its span: a non-empty run of columns of a row of a tile that is shown and latched
(R158). -/
theorem fetchEntry_span {s : State} {y slot : Nat} {e : FetchEntry} (he : fetchEntry s y slot = some e) :
    ∃ t rows row low past, (s.engine.frame.read slot).visible = true ∧ (s.engine.frame.read slot).tile = some t ∧
      s.fetch.tileLatch.read t.toNat = some rows ∧ row < rows ∧ low < past ∧
      past ≤ (s.setup.tiles.read t.toNat).width.toNat ∧
      e.first = (s.setup.tiles.read t.toNat).base.toNat +
        (row * (s.setup.tiles.read t.toNat).width.toNat + low) * 4 ∧
      e.past = e.first + (past - low) * 4 ∧ e.nextBurst = e.first / 32 := by
  unfold fetchEntry at he
  dsimp only at he
  split at he
  · rename_i t hvisible htile
    split at he
    · cases he
    · rename_i rows hlatch
      split at he
      · rename_i hcross
        split at he
        · rename_i hspan
          obtain rfl := Option.some.inj he
          refine ⟨t, rows, _, _, _, hvisible, htile, hlatch, ?_, hspan, ?_, rfl, rfl, rfl⟩
          · obtain ⟨hpos, hrow, -⟩ := hcross
            omega
          · exact Int.toNat_le.2 (min_le_left _ _)
        · cases he
      · cases he
  · cases he

/-- The span of an entry lies in its tile's picture, and its first burst has bytes of it (R158). -/
theorem LatchSafe.fetchEntry {s : State} (h : LatchSafe s) {y slot : Nat} (hslot : slot < 96) {e : FetchEntry}
    (he : fetchEntry s y slot = some e) : e.Safe := by
  obtain ⟨t, rows, row, low, past, hvisible, htile, hlatch, hrow, hspan, hwidth, hfirst, hpast, hburst⟩ :=
    fetchEntry_span he
  obtain ⟨hrows, hfits⟩ := h t rows hlatch (tileShown_iff.2 ⟨slot, hslot, hvisible, htile⟩)
  have harea : (row + 1) * (s.setup.tiles.read t.toNat).width.toNat ≤ (s.setup.tiles.read t.toNat).pixels := by
    rw [TileEntry.pixels, Nat.mul_comm]
    exact Nat.mul_le_mul_left _ (Nat.le_trans hrow hrows)
  rw [Nat.add_mul, Nat.one_mul] at harea
  constructor <;> omega

theorem LatchSafe.crossings {s : State} (h : LatchSafe s) (y : Nat) : ∀ e ∈ crossings s y, e.Safe := by
  intro e he
  obtain ⟨slot, hslot, hentry⟩ := List.mem_filterMap.1 he
  exact h.fetchEntry (List.mem_range.1 (List.mem_reverse.1 hslot)) hentry

/-- The next burst of an entry that is not complete has bytes of its span (R161). -/
theorem FetchEntry.Safe.next {e : FetchEntry} (h : e.Safe) (hmore : e.nextBurst < e.lastBurst) :
    ({ e with nextBurst := e.nextBurst + 1 } : FetchEntry).Safe := by
  obtain ⟨hburst, hpast⟩ := h
  refine ⟨?_, hpast⟩
  show (e.nextBurst + 1) * 32 < e.past
  unfold FetchEntry.lastBurst at hmore
  omega

theorem Fetch.finishLine_todo (f : Fetch) : f.finishLine.todo = f.todo := by
  unfold Fetch.finishLine
  split <;> rfl

/-- A burst read leaves the entries behind the head, and the head with its next burst unless it is complete (R161). -/
theorem Fetch.takeBurst_todo_safe {f : Fetch} {e : FetchEntry} {rest : List FetchEntry} (htodo : f.todo = e :: rest)
    (m : PictureMemory) (g : Fetch) (h : ∀ x ∈ f.todo, x.Safe) : ∀ x ∈ (g.takeBurst m e rest).todo, x.Safe := by
  rw [htodo, List.forall_mem_cons] at h
  rw [Fetch.takeBurst, Fetch.finishLine_todo]
  dsimp only
  split
  · exact h.2
  · rename_i hmore
    exact List.forall_mem_cons.2 ⟨h.1.next (by simpa using hmore), h.2⟩

/-- Reading after a whole burst has been written: the burst's byte within it, what was there before outside (R138,
R139). -/
theorem PictureMemory.read_writeBurst_eq (m : PictureMemory) (burst a : Nat) {bytes : List Byte}
    (hbytes : bytes.length = 32) :
    (m.writeBurst burst bytes).read a = if a / 32 = burst then bytes.getD (a % 32) 0 else m.read a := by
  rw [PictureMemory.read_writeBurst, PictureMemory.read_writeBytes]
  have hwithin : (burst * 32 ≤ a ∧ a < burst * 32 + bytes.length) ↔ a / 32 = burst := by omega
  by_cases h : a / 32 = burst
  · rw [dif_pos (hwithin.2 h), if_pos h]
    subst h
    rw [List.getD_eq_getElem _ _ (by omega)]
    congr 1
    omega
  · rw [dif_neg (mt hwithin.1 h), if_neg h]

/-- The computed fields of a record leave whether it shows a tile, and which (R120). -/
theorem completedRecord_shown (p : Snapshot) (slot : Nat) (r : RenderRecord) :
    (completedRecord p slot r).visible = r.visible ∧ (completedRecord p slot r).tile = r.tile := by
  unfold completedRecord
  split <;> exact ⟨rfl, rfl⟩

/-! ## What the rows keep -/

theorem tileShown_congr {s t : State} (hframe : t.engine.frame = s.engine.frame) (k : Byte) :
    tileShown t k = tileShown s k := by
  unfold tileShown
  rw [hframe]

theorem Pictures.Safe.of_tiles_eq {s t : State} {p : Pictures} (h : p.Safe s)
    (htiles : t.setup.tiles = s.setup.tiles) : p.Safe t :=
  ⟨h.coherent, h.directory, by rw [htiles]; exact h.ready, fun c => (h.channels c).of_tiles_eq htiles⟩

/-- Pictures in picture memory are a matter of the Picture Loader, the TILES entries, the tiles shown and the Fetch
Unit. -/
theorem PictureSafe.move {s t : State} (h : PictureSafe s) (hpictures : s.pictures.Safe s → t.pictures.Safe s)
    (htiles : t.setup.tiles = s.setup.tiles) (hshown : ∀ k, tileShown t k = true → tileShown s k = true)
    (hlatch : ∀ k rows, t.fetch.tileLatch.read k = some rows → s.fetch.tileLatch.read k = some rows)
    (htodo : (∀ e ∈ s.fetch.todo, e.Safe) → ∀ e ∈ t.fetch.todo, e.Safe) : PictureSafe t := by
  obtain ⟨safe, latched, bursts⟩ := pictureSafe_iff.1 h
  refine pictureSafe_iff.2 ⟨(hpictures safe).of_tiles_eq htiles, fun k rows hrows hk => ?_, htodo bursts⟩
  rw [htiles]
  exact latched k rows (hlatch _ _ hrows) (hshown k hk)

theorem PictureSafe.congr {s t : State} (h : PictureSafe s) (hpictures : t.pictures = s.pictures)
    (htiles : t.setup.tiles = s.setup.tiles) (hframe : t.engine.frame = s.engine.frame) (hfetch : t.fetch = s.fetch) :
    PictureSafe t :=
  h.move (fun hp => hpictures ▸ hp) htiles (fun k hk => tileShown_congr hframe k ▸ hk)
    (by rw [hfetch]; exact fun _ _ => id) (by rw [hfetch]; exact id)

/-- A change that keeps the loads coherent and the pictures in picture memory, and writes nothing to it. -/
structure PicturesGoOn (s t : State) : Prop where
  loads : s.pictures.Coherent → t.pictures.Coherent
  safe : PictureSafe s → PictureSafe t
  memory : t.memory = s.memory

namespace PicturesGoOn

theorem refl (s : State) : PicturesGoOn s s := ⟨id, id, rfl⟩

theorem trans {s u t : State} (h : PicturesGoOn s u) (h' : PicturesGoOn u t) : PicturesGoOn s t :=
  ⟨h'.loads ∘ h.loads, h'.safe ∘ h.safe, h'.memory.trans h.memory⟩

/-- A change of other blocks. -/
theorem of_eq {s t : State} (hpictures : t.pictures = s.pictures) (htiles : t.setup.tiles = s.setup.tiles)
    (hframe : t.engine.frame = s.engine.frame) (hfetch : t.fetch = s.fetch) (hmemory : t.memory = s.memory) :
    PicturesGoOn s t :=
  ⟨fun h => hpictures ▸ h, (·.congr hpictures htiles hframe hfetch), hmemory⟩

theorem setPictures {s : State} {p : Pictures} (h : Pictures.Keeps s s.pictures p) : PicturesGoOn s (s.setPictures p) :=
  ⟨h.coherent, (·.move h.safe rfl (fun _ => id) (fun _ _ => id) id), rfl⟩

/-- The Fetch Unit with no more tiles in its latch than before. -/
theorem setFetch {s : State} {f : Fetch}
    (hlatch : ∀ k rows, f.tileLatch.read k = some rows → s.fetch.tileLatch.read k = some rows)
    (htodo : (∀ e ∈ s.fetch.todo, e.Safe) → ∀ e ∈ f.todo, e.Safe) : PicturesGoOn s (s.setFetch f) :=
  ⟨id, (·.move id rfl (fun _ => id) hlatch htodo), rfl⟩

/-- The Fetch Unit with its line fetch dropped. -/
theorem setFetch_idle {s : State} {f : Fetch} (hlatch : f.tileLatch = s.fetch.tileLatch) (htodo : f.todo = []) :
    PicturesGoOn s (s.setFetch f) :=
  setFetch (fun _ _ h => hlatch ▸ h) fun _ e he => by rw [htodo] at he; cases he

theorem fetchLine (y : Nat) (s : State) : PicturesGoOn s (fetchLine y s) := by
  obtain ⟨-, hlatch, -⟩ := fetchLine_fetch_kept y s
  rw [fetchLine_eq]
  refine ⟨id, fun h => ?_, rfl⟩
  obtain ⟨-, latched, -⟩ := pictureSafe_iff.1 h
  refine h.move id rfl (fun _ => id) (fun _ _ hrows => hlatch ▸ hrows) fun _ e he => ?_
  rcases fetchLine_cases y s with ⟨-, hline⟩ | ⟨-, hpast⟩
  · rw [State.setFetch_fetch, hline] at he
    exact latched.crossings y e (List.mem_of_mem_take he)
  · rw [State.setFetch_fetch, hpast] at he
    cases he

/-- An event of a channel's load that may end its drain: `p` is the Picture Loader before that. -/
theorem endDrain {s : State} {p : Pictures} {c : LoadChannel}
    (h : Pictures.Keeps s s.pictures (endDrain c (s.setPictures p)).pictures) :
    PicturesGoOn s (endDrain c (s.setPictures p)) := by
  rw [endDrain_eq]
  exact setPictures h

/-! ### The frame boundary (R28) -/

/-- A boundary latches READY tiles, with the rows they hold, and begins to fetch from them (R157, R160). -/
theorem frameBoundary (source : TimingSource) (s : State) : PicturesGoOn s (frameBoundary source s) := by
  have keeps := Pictures.Keeps.boundary (s := s) s.pictures
  have hpictures := frameBoundary_pictures source s
  refine ⟨fun h => hpictures ▸ keeps.coherent h, fun h => ?_, frameBoundary_memory source s⟩
  have hlatched : (boundaryLatched source s).pictures = s.pictures.boundary := by
    rw [← hpictures, frameBoundary_eq_fetchLine, fetchLine_pictures]
  have htiles : (boundaryLatched source s).setup = s.setup := boundaryBlocks_setup source s
  obtain ⟨safe, -, -⟩ := pictureSafe_iff.1 h
  have safe := keeps.safe safe
  rw [frameBoundary_eq_fetchLine]
  refine (fetchLine 0 _).safe (pictureSafe_iff.2 ⟨?_, fun t rows hrows _ => ?_, ?_⟩)
  · rw [hlatched]
    exact safe.of_tiles_eq (by rw [htiles])
  · rw [boundaryLatched_fetch, Table.read_ofFn, if_pos t.isLt, hpictures, latchTile] at hrows
    split at hrows
    · rename_i hready
      cases hrows
      rw [htiles]
      exact safe.ready t hready
    · cases hrows
  · rw [boundaryLatched_fetch]
    exact fun e he => by cases he

/-- A frame begins after the receiver and the timing unit have moved. -/
theorem boundaryAfter {s u : State} (source : TimingSource) (h : PicturesGoOn s u) :
    PicturesGoOn s (Machine.frameBoundary source u) := h.trans (frameBoundary source u)

/-! ### Packets -/

/-- An entry of another table leaves the TILES entries (R40). -/
theorem putEntry_tiles {table : TableId} (htable : table ≠ .tiles) {index : Nat} {e : List Byte} {u v : Setup}
    (h : putEntry table index e u = some v) : v.tiles = u.tiles := by
  cases table with
  | tiles => exact absurd rfl htable
  | fontMetrics =>
    simp only [putEntry] at h
    split at h
    · exact (Option.some.inj h) ▸ rfl
    · obtain ⟨_, -, rfl⟩ := Option.map_eq_some_iff.1 h
      rfl
  | glyphs font => exact (Option.some.inj h) ▸ rfl
  | canvas | heads | slots | formats | schedule | groups =>
    obtain ⟨_, -, rfl⟩ := Option.map_eq_some_iff.1 h
    rfl
  | _ => cases h

theorem writeOther {table : TableId} (htable : table ≠ .tiles) {index : Nat} {e : List Byte} {s : State} {u : Setup}
    (hput : putEntry table index e s.setup = some u) : PicturesGoOn s (writeEffect table index (s.setSetup u)) := by
  have htiles := putEntry_tiles htable hput
  rcases writeEffect_cases table index (s.setSetup u) with ⟨-, e⟩ | ⟨rfl, -⟩ | ⟨-, -, e⟩
  · rw [e]
    exact of_eq rfl htiles rfl rfl rfl
  · exact absurd rfl htable
  · rw [e]
    exact of_eq rfl htiles rfl rfl rfl

/-- A TILES entry of a tile that is neither shown nor LOADING: no channel targets the tile, and it is EMPTY then (R38,
R51, R154). -/
theorem writeTile {s : State} {tile : Byte} (hfree : tileInUse s tile = false) (x : TileEntry) :
    PicturesGoOn s ((s.setSetup { s.setup with tiles := s.setup.tiles.write tile.toNat x }).setPictures
      (s.pictures.setTile tile TileRecord.initial)) := by
  rw [← Bool.not_eq_true, tileInUse_iff, not_or] at hfree
  obtain ⟨hshown, hidle⟩ := hfree
  have other {k : Byte} (hk : k ≠ tile) :
      (s.setup.tiles.write tile.toNat x).read k.toNat = s.setup.tiles.read k.toNat :=
    Table.read_write_other _ _ (mt BitVec.toNat_inj.1 hk)
  have coherent (h : s.pictures.Coherent) : (s.pictures.setTile tile TileRecord.initial).Coherent :=
    h.setTile hidle (by decide)
  refine ⟨coherent, fun h => ?_, rfl⟩
  obtain ⟨safe, latched, bursts⟩ := pictureSafe_iff.1 h
  refine pictureSafe_iff.2 ⟨⟨coherent safe.coherent, Table.wf_write _ _ safe.directory, fun k hready => ?ready,
    fun c => ?channel⟩, fun k rows hrows hk => ?latched, bursts⟩
  case ready =>
    rw [State.setPictures_pictures, Pictures.read_setTile] at hready ⊢
    split at hready
    · cases hready
    · rename_i hk
      rw [if_neg hk]
      exact (other hk).symm ▸ safe.ready k hready
  case channel =>
    show ChannelSafe _ ((s.pictures.setTile tile TileRecord.initial).channel c)
    rw [Pictures.channel_setTile]
    by_cases hbusy : (s.pictures.channel c).state = .idle
    · exact (safe.coherent.legal c).safe_of_idle hbusy _
    · have hk : (s.pictures.channel c).tile ≠ tile := fun hk =>
        hidle ((safe.coherent.loading tile).2 ⟨c, Channel.targets_iff.2 ⟨hbusy, hk⟩⟩)
      exact (safe.channels c).of_entry_eq (other hk)
  case latched =>
    have hk' : k ≠ tile := fun e => hshown (e ▸ hk)
    exact (other hk').symm ▸ latched k rows hrows hk

/-- What is kept while the entries of a WRITE are stored from `first` on: the loads and the pictures, the tiles shown,
and the directory from the next entry on (R40, R51). -/
structure StoringTiles (s : State) (index : Nat) (u : State) : Prop where
  goesOn : PicturesGoOn s u
  engine : u.engine = s.engine
  directory : ∀ k, index ≤ k → u.pictures.directory.read k = s.pictures.directory.read k

theorem StoringTiles.store {s u : State} {index : Nat} (h : StoringTiles s index u) {e : List Byte} {v : Setup}
    (hindex : index < TableId.tiles.entries) (hput : putEntry .tiles index e u.setup = some v)
    (hfree : entryInUse s .tiles index = false) :
    StoringTiles s (index + 1) (writeEffect .tiles index (u.setSetup v)) := by
  obtain ⟨x, -, rfl⟩ := Option.map_eq_some_iff.1 hput
  have htile : (BitVec.ofNat 8 index).toNat = index := toNat_ofNat_byte hindex
  have hfree' : tileInUse u (BitVec.ofNat 8 index) = false := by
    unfold tileInUse
    rw [tileShown_congr (s := s) (by rw [h.engine]), h.directory _ (by rw [htile])]
    exact hfree
  have stored := writeTile hfree' x
  rw [htile] at stored
  refine ⟨h.goesOn.trans stored, h.engine, fun k hk => ?_⟩
  show (u.pictures.directory.write (BitVec.ofNat 8 index).toNat TileRecord.initial).read k = _
  rw [htile, Table.read_write_other _ _ (by omega)]
  exact h.directory k (by omega)

/-- The entries of a WRITE to TILES, none of them of a tile in use (R39, R40). -/
theorem StoringTiles.entries {s : State} {entries : List (List Byte)} : ∀ {index : Nat} {u : State},
    StoringTiles s index u →
    (∀ k < entries.length, index + k < TableId.tiles.entries → entryInUse s .tiles (index + k) = false) →
    PicturesGoOn s (writeEntries .tiles entries index u).1 := by
  induction entries with
  | nil => exact fun h _ => h.goesOn
  | cons e rest ih =>
    intro index u h hfree
    unfold writeEntries
    split
    · exact h.goesOn
    · split
      · exact h.goesOn
      · rename_i hlt _ v hput
        refine ih (h.store (Nat.not_le.1 hlt) hput (hfree 0 (by simp) (Nat.not_le.1 hlt))) fun k hk hin => ?_
        rw [Nat.add_assoc, Nat.add_comm 1] at hin ⊢
        exact hfree (k + 1) (by simpa using hk) hin

theorem write (payload : List Byte) (s : State) : PicturesGoOn s (write payload s) := by
  rcases write_cases payload s with ⟨code, e⟩ | ⟨c, -, -, hfree, hw⟩
  · rw [e]
    exact of_eq rfl rfl rfl rfl rfl
  · have entries : PicturesGoOn s (writeEntries c.table
        (chunks c.table.entryBytes (payload.length / c.table.entryBytes) payload) c.index s).1 := by
      by_cases htable : c.table = .tiles
      · rw [htable, writeInUse_eq_false] at hfree
        rw [htable]
        exact StoringTiles.entries ⟨refl s, rfl, fun _ _ => rfl⟩ (by rw [chunks_length]; exact hfree)
      · exact writeEntries_keeps (P := fun _ u => PicturesGoOn s u)
          (fun _ _ _ _ hu _ hput => hu.trans (writeOther htable hput)) _ _ _ (refl s)
    have placed := entries.trans (of_eq (t := placeCursor c.table (writeEntries c.table
      (chunks c.table.entryBytes (payload.length / c.table.entryBytes) payload) c.index s)) rfl rfl rfl rfl rfl)
    rcases hw with e | ⟨code, e⟩ <;> rw [e]
    · exact placed
    · exact placed.trans (of_eq rfl rfl rfl rfl rfl)

/-- A soft reset empties both channels and drops the line fetch, which a running frame takes up again (R16, R156,
R169). -/
theorem softResetBlocks (s : State) : PicturesGoOn s (softResetBlocks s) := by
  have reset : PicturesGoOn s (resetBlocks s) :=
    (setPictures (Pictures.Keeps.reset s s.pictures)).trans <|
      trans (setFetch_idle (f := s.fetch.softReset) rfl rfl) (of_eq rfl rfl rfl rfl rfl)
  by_cases hidle : s.compositor.latch = none ∨ s.compositor.blanked = true
  · rw [softResetBlocks_idle hidle]
    exact reset
  · obtain ⟨hlatch, hb⟩ := not_or.1 hidle
    obtain ⟨l, hl⟩ := Option.ne_none_iff_exists'.1 hlatch
    rw [softResetBlocks_running hl (by simpa using hb)]
    refine reset.trans (trans ?_ (fetchLine _ _))
    rw [cutLine_eq]
    exact of_eq rfl rfl rfl rfl rfl

/-- Data that fit the buffer go to pixels of the tile; the last of them may end the drain (R146, R147, R150). -/
theorem loadData {payload : List Byte} {s t : State} (h : loadData payload s = .ok t) : PicturesGoOn s t := by
  obtain ⟨c, hopen, hroom, rfl⟩ := loadData_ok h
  have hbusy : (s.pictures.channel c).state ≠ .idle := by simp [hopen]
  exact endDrain (.endDrain hbusy (x := (s.pictures.channel c).take _ (payload.drop 8)) rfl (by cases c <;> rfl)
    (by cases c <;> rfl) (by cases c <;> rfl) rfl (fun hx => (hx.running hbusy).take hopen _ hroom)
    fun hx hsafe => hsafe.take (hx.running hbusy) hopen _)

/-- A load cut to its complete rows drains what is left of it (R151). -/
theorem loadEnd {payload : List Byte} {s t : State} (h : loadEnd payload s = .ok t) : PicturesGoOn s t := by
  obtain ⟨c, hopen, rfl⟩ := loadEnd_ok h
  have hbusy : (s.pictures.channel c).state ≠ .idle := by simp [hopen]
  exact endDrain (.endDrain hbusy (x := (s.pictures.channel c).cut _) rfl (by cases c <;> rfl) (by cases c <;> rfl)
    (by cases c <;> rfl) rfl (fun hx => (hx.running hbusy).cut _) fun hx hsafe => hsafe.cut (hx.running hbusy) hopen)

theorem ownerActs (kind : PacketKind) (broadcast : Bool) (payload : List Byte) (s : State) :
    PicturesGoOn s (ownerActs kind broadcast payload s) := by
  refine ownerActs_keeps broadcast payload (refl s) (fun u code kind h => h.trans (of_eq rfl rfl rfl rfl rfl)) ?select
    (write payload s) ?query ?stage ?sealing (of_eq rfl rfl rfl rfl rfl) (of_eq rfl rfl rfl rfl rfl)
    (fun _ => of_eq rfl rfl rfl rfl rfl) ?status ?time ?restart ?opening (fun _ => loadData) (fun _ => loadEnd) ?abort
    ?node ?clear (softResetBlocks s) kind
  case select => intro t h; obtain ⟨_, -, rfl⟩ := select_ok h; exact of_eq rfl rfl rfl rfl rfl
  case query => intro t h; obtain ⟨-, rfl | ⟨_, rfl⟩⟩ := query_ok h <;> exact of_eq rfl rfl rfl rfl rfl
  case stage => intro t h; obtain ⟨_, -, rfl⟩ := stage_ok h; exact of_eq rfl rfl rfl rfl rfl
  case sealing => intro t h; obtain ⟨_, -, -, rfl⟩ := sealBatch_ok h; exact of_eq rfl rfl rfl rfl rfl
  case status => intro t h; obtain ⟨_, -, rfl⟩ := statusNow_ok h; exact of_eq rfl rfl rfl rfl rfl
  case time => intro t h; obtain ⟨-, rfl⟩ | ⟨-, _, _, -, -, rfl⟩ := setTime_ok h <;> exact of_eq rfl rfl rfl rfl rfl
  case restart => intro t h; obtain ⟨_, rfl⟩ := groupRestart_ok h; exact of_eq rfl rfl rfl rfl rfl
  case opening =>
    intro t h
    obtain ⟨_, f, _, hidle, hother, -, hroom, rfl⟩ := loadOpen_ok h
    exact setPictures (.opening hidle hother hroom f)
  case abort =>
    intro t h
    obtain rfl | ⟨_, hbusy, rfl⟩ := loadAbort_ok h
    · exact refl _
    · exact setPictures (.abort hbusy)
  case node => intro t h; obtain ⟨_, -, rfl⟩ := setNode_ok h; exact of_eq rfl rfl rfl rfl rfl
  case clear =>
    exact (setPictures (.congr (q := s.pictures.clearCounters) rfl fun d => by cases d <;> rfl)).trans <|
      trans (setFetch (f := s.fetch.clearCounters) (fun _ _ => id) id) (of_eq rfl rfl rfl rfl rfl)

/-! ### Grants (R149, R161, R164, R165) -/

/-- A burst read drops no entry but the head, and a tile of the latch at most; it writes nothing (R161, R164, R165). -/
theorem readBurst {check : ReadCheck} {s t : State} (h : readBurst check s = .next t) :
    ∃ m, PicturesGoOn (s.setMemory m) t ∧ ∀ a, m.read a = s.memory.read a := by
  rcases readBurst_cases check s with
    ⟨-, e⟩ | ⟨entry, rest, htodo, ⟨-, e⟩ | ⟨-, ⟨-, e⟩ | ⟨-, e⟩ | ⟨-, e⟩⟩⟩ <;> rw [e] at h <;> cases h
  · refine ⟨s.memory, setFetch (fun k rows hrows => ?_) fun hsafe => ?_, fun _ => rfl⟩
    · rwa [(Fetch.finishLine_latches _).1] at hrows
    · rwa [Fetch.finishLine_todo]
  · refine ⟨s.memory, setFetch (fun k rows hrows => ?_) (Fetch.takeBurst_todo_safe htodo _ _), fun _ => rfl⟩
    rwa [(Fetch.takeBurst_latches _ _ _ _).1] at hrows
  · refine ⟨{ s.memory with oneBitBursts := s.memory.oneBitBursts.write entry.nextBurst true },
      setFetch (fun k rows hrows => ?_) (Fetch.takeBurst_todo_safe htodo _ _), fun _ => rfl⟩
    rwa [(Fetch.takeBurst_latches _ _ _ _).1] at hrows
  · refine ⟨s.memory, trans (setFetch (fun k rows hrows => ?_) fun hsafe => ?_)
      (setPictures (.reportFault entry.tile _)), fun _ => rfl⟩
    · rw [(Fetch.abandonEntry_latches _ _ _).1, Table.read_write] at hrows
      split at hrows
      · cases hrows
      · exact hrows
    · rw [State.setMemory_fetch, htodo, List.forall_mem_cons] at hsafe
      rw [Fetch.abandonEntry, Fetch.finishLine_todo]
      exact hsafe.2

/-- The words of the front burst leave their channel, and the drain may end (R149, R150). -/
theorem dropFront {s : State} {c : LoadChannel} (hbusy : (s.pictures.channel c).state ≠ .idle) :
    PicturesGoOn s (Machine.endDrain c (s.setPictures (s.pictures.setChannel c
      { s.pictures.channel c with buffer := behindFront (s.pictures.channel c).buffer }))) :=
  endDrain (.endDrain hbusy (x := { s.pictures.channel c with buffer := behindFront (s.pictures.channel c).buffer }) rfl
    (by cases c <;> rfl) (by cases c <;> rfl) (by cases c <;> rfl) rfl (fun hx => (hx.running hbusy).behindFront)
    fun _ hsafe => hsafe.behindFront hbusy)

/-- A burst write takes words from its channel; nothing but the burst is written (R149). -/
theorem writeBurst {c : LoadChannel} {s t : State} (hbusy : (s.pictures.channel c).state ≠ .idle)
    (h : writeBurst c s = .next t) : ∃ m, PicturesGoOn (s.setMemory m) t ∧ ∀ a, m.read a ≠ s.memory.read a →
      ∃ w, (s.pictures.channel c).buffer.head? = some w ∧ a / 32 = w.burst := by
  rcases writeBurst_cases c s with ⟨-, e⟩ | ⟨w, rest, hbuffer, ⟨-, e⟩ | ⟨-, e⟩⟩ <;> rw [e] at h <;> cases h
  · exact ⟨s.memory, refl s, fun a ha => absurd rfl ha⟩
  · generalize hm : s.memory.writeBurst w.burst (burstBytes (frontWords (s.pictures.channel c).buffer) w.burst) = m
    refine ⟨m, dropFront (s := s.setMemory m) hbusy, fun a ha => ⟨w, by rw [hbuffer]; rfl, ?_⟩⟩
    by_contra houtside
    rw [← hm, PictureMemory.read_writeBurst_eq _ _ _ (burstBytes_length _ _), if_neg houtside] at ha
    exact ha rfl

theorem grant {check : ReadCheck} {s t : State} (h : exec (.grant check) s = .next t) :
    ∃ m, PicturesGoOn (s.setMemory m) t ∧ ∀ a, m.read a ≠ s.memory.read a →
      ∃ c w, grantee s = some (.channel c) ∧ (s.pictures.channel c).buffer.head? = some w ∧ a / 32 = w.burst := by
  have counted (a : Arbiter) (m : PictureMemory) : PicturesGoOn (s.setMemory m) ((s.setArbiter a).setMemory m) :=
    of_eq rfl rfl rfl rfl rfl
  rcases execGrant_cases check s with ⟨-, e⟩ | ⟨-, e⟩ | ⟨c, hc, e⟩ <;> rw [e] at h
  · cases h
    exact ⟨s.memory, refl s, fun a ha => absurd rfl ha⟩
  · obtain ⟨m, hgoes, hread⟩ := readBurst h
    exact ⟨m, (counted _ m).trans hgoes, fun a ha => absurd (hread a) ha⟩
  · have hbusy : (s.pictures.channel c).state ≠ .idle := by
      rcases (Channel.asks_iff _).1 (grantee_channel hc) with ⟨hopen, -⟩ | ⟨hending, -⟩
      · simp [hopen]
      · simp [hending]
    obtain ⟨m, hgoes, hwritten⟩ := writeBurst (s := s.setArbiter (windowAfter s true)) hbusy h
    refine ⟨m, (counted _ m).trans hgoes, fun a ha => ?_⟩
    obtain ⟨w, hw, hburst⟩ := hwritten a ha
    exact ⟨c, w, hc, hw, hburst⟩

/-! ### Every row -/

theorem lineOutputStart {input : List Rgb} {s t : State} (h : exec (.lineOutputStart input) s = .next t) :
    PicturesGoOn s t := by
  replace h : execLineOutputStart input s = .next t := h
  rcases execLineOutputStart_cases input s with ⟨-, e⟩ | ⟨-, e⟩ | e <;> rw [e] at h <;> cases h
  · have started : PicturesGoOn s (startStore s) := setFetch_idle rfl rfl
    refine (started.trans ?_).trans (fetchLine _ _)
    rw [composeLine_eq]
    exact of_eq rfl rfl rfl rfl rfl
  · exact of_eq rfl rfl rfl rfl rfl
  · exact refl s

theorem blankFrame (s : State) : PicturesGoOn s (blankFrame s) := by
  unfold Machine.blankFrame
  split
  · have marked : PicturesGoOn s (s.setCompositor { s.compositor with blanked := true }) := of_eq rfl rfl rfl rfl rfl
    exact marked.trans (setFetch_idle rfl rfl)
  · exact refl s

/-- The computed fields leave which tiles are shown (R120). -/
theorem complete (s : State) : PicturesGoOn s (s.setEngine s.engine.complete) := by
  have shown (k : Byte) (hk : tileShown (s.setEngine s.engine.complete) k = true) : tileShown s k = true := by
    cases hsnapshot : s.engine.snapshot with
    | none =>
      have hkept : s.engine.complete = s.engine := by simp only [Engine.complete, hsnapshot]
      rwa [hkept] at hk
    | some p =>
      rw [Engine.complete_of_snapshot hsnapshot, tileShown_iff] at hk
      obtain ⟨slot, hslot, hvisible, htile⟩ := hk
      rw [State.setEngine_engine, read_completeRecords, if_pos hslot] at hvisible htile
      obtain ⟨hsame, htile'⟩ := completedRecord_shown p slot (s.engine.frame.read slot)
      rw [hsame] at hvisible
      rw [htile'] at htile
      exact tileShown_iff.2 ⟨slot, hslot, hvisible, htile⟩
  exact ⟨id, (·.move id rfl shown (fun _ _ => id) id), rfl⟩

theorem boardReset (straps : Fin 8) (s : State) : PicturesGoOn s (boardReset straps s) := by
  have keeps := Pictures.Keeps.reset s s.pictures
  refine ⟨keeps.coherent, fun h => ?_, rfl⟩
  obtain ⟨safe, -, -⟩ := pictureSafe_iff.1 h
  have latched : LatchSafe (Machine.boardReset straps s) := fun _ _ hrows => by cases hrows
  exact pictureSafe_iff.2 ⟨(keeps.safe safe).of_tiles_eq rfl, latched, List.forall_mem_nil _⟩

theorem carrierLine {pixels : List Rgb} {s t : State} (h : exec (.carrierLine pixels) s = .next t) : PicturesGoOn s t :=
  carrierLine_keeps (P := PicturesGoOn s) (fun _ _ hu => hu.trans (of_eq rfl rfl rfl rfl rfl))
    (fun _ hu => hu.trans (of_eq rfl rfl rfl rfl rfl))
    (fun kind broadcast payload _ hu => hu.trans (ownerActs kind broadcast payload _)) (refl s) h

theorem drainEnd (c : LoadChannel) (s : State) : PicturesGoOn s (Machine.endDrain c s) := by
  rcases endDrain_cases c s with ⟨hending, -⟩ | ⟨-, e⟩
  · have hbusy : (s.pictures.channel c).state ≠ .idle := by simp [hending]
    exact endDrain (p := s.pictures) (.endDrain hbusy rfl rfl rfl rfl rfl (·.running hbusy) fun _ h => h)
  · rw [e]
    exact refl s

/-- Every row but a power-on and GRANT keeps the loads coherent and the pictures in picture memory, and writes nothing
to it. -/
theorem exec {c : Instr} (hpower : ∀ straps, c ≠ .powerOn straps) (hgrant : ∀ check, c ≠ .grant check) {s t : State}
    (h : exec c s = .next t) : PicturesGoOn s t := by
  cases hp : packet c with
  | some q =>
    obtain ⟨kind, broadcast, payload⟩ := q
    rw [exec_of_packet hp] at h
    cases h
    exact ownerActs kind broadcast payload s
  | none =>
    cases c with
    | powerOn straps => exact absurd rfl (hpower straps)
    | grant check => exact absurd rfl (hgrant check)
    | boardReset straps => cases h; exact boardReset straps s
    | carrierLine pixels => exact carrierLine h
    | badKind kind => cases h; exact of_eq rfl rfl rfl rfl rfl
    | resetComplete =>
      rcases exec_resetComplete_cases s with e | ⟨-, e⟩ <;> rw [e] at h <;> cases h
      · exact refl s
      · exact boundaryAfter _ (of_eq rfl rfl rfl rfl rfl)
    | firstActiveLine width =>
      cases h
      split
      · refine trans ?_ (blankFrame _)
        exact of_eq rfl rfl rfl rfl rfl
      · exact refl s
    | inputFrameStart a b =>
      rcases exec_inputFrameStart_cases a b s with e | ⟨_, e⟩ | ⟨source, timing, e⟩ <;> rw [e] at h <;> cases h
      · exact refl s
      · exact of_eq rfl rfl rfl rfl rfl
      · exact boundaryAfter _ (of_eq rfl rfl rfl rfl rfl)
    | inputTimeout =>
      rcases exec_inputTimeout_cases s with e | ⟨-, ⟨-, e⟩ | ⟨-, e⟩⟩ <;> rw [e] at h <;> cases h
      · exact refl s
      · exact of_eq rfl rfl rfl rfl rfl
      · exact boundaryAfter _ (of_eq rfl rfl rfl rfl rfl)
    | generatorFrameEnd =>
      rcases exec_generatorFrameEnd_cases s with e | ⟨-, _, -, e⟩ <;> rw [e] at h <;> cases h
      · exact refl s
      · exact frameBoundary _ s
    | lineOutputStart input => exact lineOutputStart h
    | drainEnd channel => cases h; exact drainEnd channel s
    | stallAbort channel => cases h; exact setPictures (.stallOut channel _)
    | completionEvent =>
      cases h
      split
      · exact complete s
      · exact refl s
    | lineFetchComplete =>
      cases h
      exact setFetch (fun _ _ hrows => (Fetch.finishLine_latches s.fetch).1 ▸ hrows)
        fun hsafe => (Fetch.finishLine_todo s.fetch).symm ▸ hsafe
    | groupStep g => cases h; split <;> exact of_eq rfl rfl rfl rfl rfl
    | windowClose => cases h; exact of_eq rfl rfl rfl rfl rfl
    | clockAdvance micros => cases h; exact of_eq rfl rfl rfl rfl rfl
    | replyStart readings =>
      replace h : execReplyStart readings s = .next t := h
      rcases execReplyStart_cases readings s with e | ⟨_, _, _, _, _, -, -, ⟨-, -, e⟩ | e⟩ <;>
        rw [e] at h <;> cases h <;> exact of_eq rfl rfl rfl rfl rfl
    | replyTimeout => cases h; split <;> [split; skip] <;> exact of_eq rfl rfl rfl rfl rfl
    | collision => cases h; split <;> [split; skip] <;> exact of_eq rfl rfl rfl rfl rfl
    | replyEnd => cases h; split <;> [split; skip] <;> exact of_eq rfl rfl rfl rfl rfl
    | _ => simp [packet] at hp

end PicturesGoOn

/-! ## The statements -/

theorem powerOn_pictureSafe (straps : Fin 8) (s : State) : PictureSafe (powerOn straps s) :=
  reset_pictureSafe.congr rfl rfl rfl rfl

/-- Every command keeps the loads coherent, and the pictures in picture memory. -/
theorem exec_keeps_loads {c : Instr} {s t : State} (h : exec c s = .next t) :
    (s.pictures.Coherent → t.pictures.Coherent) ∧ (PictureSafe s → PictureSafe t) := by
  by_cases hpower : ∃ straps, c = .powerOn straps
  · obtain ⟨straps, rfl⟩ := hpower
    cases h
    have safe := powerOn_pictureSafe straps s
    exact ⟨fun _ => (pictureSafe_iff.1 safe).1.coherent, fun _ => safe⟩
  · by_cases hgrant : ∃ check, c = .grant check
    · obtain ⟨check, rfl⟩ := hgrant
      obtain ⟨m, hgoes, -⟩ := PicturesGoOn.grant h
      exact ⟨hgoes.loads, fun hs => hgoes.safe (hs.congr rfl rfl rfl rfl)⟩
    · have hgoes := PicturesGoOn.exec (not_exists.1 hpower) (not_exists.1 hgrant) h
      exact ⟨hgoes.loads, hgoes.safe⟩

/-- No GRANT meets an address outside picture memory: the bursts still to be fetched and the words still to be written
are all within it (R138). -/
theorem PictureSafe.exec_ne_fault {s : State} (h : PictureSafe s) (c : Instr) (f : Fault) : exec c s ≠ .fault f := by
  obtain ⟨safe, -, bursts⟩ := pictureSafe_iff.1 h
  intro hfault
  rcases exec_next_or_grant c s with ⟨t, e⟩ | ⟨check, -, rfl, -⟩
  · cases e.symm.trans hfault
  · rcases execGrant_cases check s with ⟨-, e⟩ | ⟨-, e⟩ | ⟨d, -, e⟩ <;> rw [e] at hfault
    · cases hfault
    · rcases readBurst_cases check (s.setArbiter (windowAfter s false)) with
        ⟨-, e⟩ | ⟨entry, rest, htodo, ⟨hpast, -⟩ | ⟨-, ⟨-, e⟩ | ⟨-, e⟩ | ⟨-, e⟩⟩⟩
      case inr.inl =>
        have htodo' : s.fetch.todo = entry :: rest := htodo
        obtain ⟨hburst, hwithin⟩ := bursts entry (htodo' ▸ List.mem_cons_self)
        omega
      all_goals cases e.symm.trans hfault
    · rcases writeBurst_cases d (s.setArbiter (windowAfter s true)) with
        ⟨-, e⟩ | ⟨w, rest, hbuffer, ⟨hpast, e⟩ | ⟨-, e⟩⟩
      · cases e.symm.trans hfault
      · have hbuffer' : (s.pictures.channel d).buffer = w :: rest := hbuffer
        have hwithin := (safe.channels d).words w (hbuffer' ▸ List.mem_cons_self)
        unfold BufferedWord.burst at hpast
        omega
      · cases e.symm.trans hfault

/-- The queue has no part in it. -/
theorem PictureSafe.setPending {s : State} (h : PictureSafe s) (rest : List Instr) : PictureSafe (s.setPending rest) :=
  h.congr rfl rfl rfl rfl

/-- Settles O4, by the rows: a channel goes on with its tile, gives it up with its load, or takes one that is free. -/
theorem loadsStayCoherent : Obligations.LoadsStayCoherent :=
  step_keeps (fun _ _ h => ⟨h.loading, h.apart, h.channelA, h.channelB⟩) fun _ _ _ h he =>
    loadsCoherent_iff.2 ((exec_keeps_loads he).1 (loadsCoherent_iff.1 h))

/-- Settles O5: a load lies where LOAD_OPEN found room for it, a tile in use keeps its entry, and what is latched and
fetched is of tiles that hold pictures. -/
theorem picturesStayInMemory : Obligations.PicturesStayInMemory := by
  unfold Obligations.PicturesStayInMemory
  intro s h
  refine ⟨fun f hf => ?_, fun t ht => ?_⟩
  · unfold step at hf
    split at hf
    · cases hf
    · exact (h.setPending _).exec_ne_fault _ f hf
  · exact step_keeps (fun _ rest h => h.setPending rest) (fun _ _ _ h he => (exec_keeps_loads he).2 h) s t h ht

/-- Settles O13: a power-on and GRANT apart, no row writes picture memory, and a grant writes a burst whole. -/
theorem onlyBurstsAreWritten : Obligations.OnlyBurstsAreWritten := by
  unfold Obligations.OnlyBurstsAreWritten
  intro c s t a h hwritten
  by_cases hpower : ∃ straps, c = .powerOn straps
  · exact .inl hpower
  · by_cases hgrant : ∃ check, c = .grant check
    · obtain ⟨check, rfl⟩ := hgrant
      obtain ⟨m, hgoes, hburst⟩ := PicturesGoOn.grant h
      rw [hgoes.memory] at hwritten
      obtain ⟨ch, w, hgrantee, hw, ha⟩ := hburst a hwritten
      exact .inr ⟨check, ch, w, rfl, hgrantee, hw, ha⟩
    · rw [(PicturesGoOn.exec (not_exists.1 hpower) (not_exists.1 hgrant) h).memory] at hwritten
      exact absurd rfl hwritten

end Sys2Proof.Machine
end

section
/-! PROOFS. LOAD_OPEN and LOAD_DATA: their payloads read, the checks in their order, and what a packet taken leaves
(R144 to R148). -/

namespace Sys2Proof.Machine

/-! ## Channel and format numbers (R143, R144) -/

@[simp] theorem channelOfNumber_number (c : LoadChannel) : channelOfNumber (LoadChannel.number c).toNat = some c := by
  cases c <;> rfl

theorem channelOfNumber_none {n : Nat} (h : 1 < n) : channelOfNumber n = none := by
  obtain ⟨k, rfl⟩ := Nat.exists_eq_add_of_le' h
  rfl

@[simp] theorem SourceFormat.ofNumber_number (f : SourceFormat) :
    SourceFormat.ofNumber (SourceFormat.number f).toNat = some f := by
  cases f <;> rfl

theorem SourceFormat.ofNumber_none {n : Nat} (h : 2 < n) : SourceFormat.ofNumber n = none := by
  obtain ⟨k, rfl⟩ := Nat.exists_eq_add_of_le' h
  rfl

/-! ## LOAD_OPEN (R144, R145) -/

theorem exec_loadOpen (payload : List Byte) (s : State) :
    exec (.loadOpen payload) s = .next (settle .loadOpen s (loadOpen payload s)) := rfl

section
variable {payload : List Byte} {s : State}

theorem loadOpen_badLength (h : payload.length ≠ 4) : loadOpen payload s = .error .badLength := if_pos h

theorem loadOpen_badField (hlen : payload.length = 4)
    (h : channelOfNumber (byteAt payload 0).toNat = none ∨ SourceFormat.ofNumber (byteAt payload 2).toNat = none) :
    loadOpen payload s = .error .badField := by
  unfold loadOpen
  rw [if_neg (not_not_intro hlen)]
  split
  · rename_i hc hf
    simp [hc, hf] at h
  · rfl

end

/-- LOAD_OPEN of a channel and a format that there are: the rest of the checks, in their order (R144). -/
theorem loadOpen_fields (c : LoadChannel) (f : SourceFormat) (tile unused : Byte) (s : State) :
    loadOpen [LoadChannel.number c, tile, SourceFormat.number f, unused] s =
      if (s.pictures.channel c).state ≠ .idle ∨
          ((s.pictures.channel (otherChannel c)).state ≠ .idle ∧ (s.pictures.channel (otherChannel c)).tile = tile) then
        .error .channelBusy
      else if (s.pictures.directory.read tile.toNat).state = .ready ∧ tileShown s tile = true then .error .inUse
      else if memoryBytes <
          (s.setup.tiles.read tile.toNat).base.toNat + (s.setup.tiles.read tile.toNat).pixels * 4 then .error .badField
      else .ok (s.setPictures ((s.pictures.setTile tile ⟨.loading, 0⟩).setChannel c
        ((s.pictures.channel c).opening tile f (s.setup.tiles.read tile.toNat)))) := by
  simp only [← Channel.targets_iff]
  simp [loadOpen, byteAt]

/-- Settles O41: the two numbers are read, then the checks follow one another. -/
theorem loadOpenOutcome : Obligations.LoadOpenOutcome := by
  unfold Obligations.LoadOpenOutcome
  refine fun payload s => ⟨fun hlen => ?_, fun hlen hbad => ?_, ?_⟩
  · rw [exec_loadOpen, loadOpen_badLength hlen]
    rfl
  · rw [exec_loadOpen, loadOpen_badField hlen (hbad.imp channelOfNumber_none SourceFormat.ofNumber_none)]
    rfl
  · rintro c f tile unused rfl e pixels
    rw [exec_loadOpen, loadOpen_fields]
    simp only [apply_ite (settle .loadOpen s)]
    rfl

/-! ## The payload of LOAD_DATA (R146) -/

section
variable (c : LoadChannel) (unused : Byte × Byte × Byte) (offset : Nat) (data : List Byte)

theorem loadPayload_length : (loadPayload c unused offset data).length = 8 + data.length := by
  simp [loadPayload]
  omega

theorem loadPayload_channel : byteAt (loadPayload c unused offset data) 0 = LoadChannel.number c := rfl

theorem loadPayload_offset (h : offset < 2 ^ 32) : field (loadPayload c unused offset data) 4 4 = offset :=
  leNat_leBytes_of_lt (n := 4) h

theorem loadPayload_data : (loadPayload c unused offset data).drop 8 = data := rfl

end

/-! ## LOAD_DATA (R146, R147) -/

theorem exec_loadData (payload : List Byte) (s : State) :
    exec (.loadData payload) s = .next (settle .loadData s (loadData payload s)) := rfl

section
variable {payload : List Byte} {s : State}

theorem loadData_badLength (h : payload.length < 8) : loadData payload s = .error .badLength := if_pos h

theorem loadData_badField (hlen : 8 ≤ payload.length) (h : 1 < (byteAt payload 0).toNat) :
    loadData payload s = .error .badField := by
  unfold loadData
  rw [if_neg (Nat.not_lt.2 hlen), channelOfNumber_none h]

end

/-- LOAD_DATA of a channel that there is: the rest of the checks, in their order (R146). -/
theorem loadData_payload (c : LoadChannel) (unused : Byte × Byte × Byte) {offset : Nat} (hoffset : offset < 2 ^ 32)
    (data : List Byte) (s : State) : loadData (loadPayload c unused offset data) s =
      if (s.pictures.channel c).state ≠ .opened then .error .notOpen
      else if offset ≠ (s.pictures.channel c).received then .error .outOfOrder
      else if 4096 - 4 * (s.pictures.channel c).buffer.length < 4 * (s.pictures.channel c).completes data then
        .error .bufferFull
      else .ok (endDrain c (s.setPictures
        { s.pictures.setChannel c ((s.pictures.channel c).take
            (s.setup.tiles.read (s.pictures.channel c).tile.toNat).base.toNat data) with
          surplus := bumpBy s.pictures.surplus (data.length - ((s.pictures.channel c).taking data).length) })) := by
  unfold loadData
  rw [if_neg (by rw [loadPayload_length]; omega), loadPayload_channel, channelOfNumber_number,
    loadPayload_offset c unused offset data hoffset, loadPayload_data]

theorem Channel.completes_eq (x : Channel) (data : List Byte) : x.completes data =
    (x.holding.length + min data.length (x.byteCount - x.received)) / x.format.bytesPerPixel := by
  rw [Channel.completes, Channel.loose, List.length_append, Channel.taking_length, Nat.min_comm]

theorem loadDataRefusals : Claims.LoadDataRefusals := by
  refine ⟨fun payload s hlen => ?_, fun payload s hlen hbad => ?_, fun c unused offset data s hoffset => ?_⟩
  · rw [exec_loadData, loadData_badLength hlen]
    rfl
  · rw [exec_loadData, loadData_badField hlen hbad]
    rfl
  · intro x taken
    rw [exec_loadData, loadData_payload c unused hoffset]
    refine ⟨fun hclosed => ?_, fun hopen horder => ?_, fun hopen horder hfull => ?_⟩
    · rw [if_pos hclosed]
      rfl
    · rw [if_neg (not_not_intro hopen), if_pos horder]
      rfl
    · rw [if_neg (not_not_intro hopen), if_neg (not_not_intro horder), if_pos (by rwa [Channel.completes_eq])]
      rfl

/-- The words that complete pixels give, by their place (R147, R148). -/
theorem formWords_chunks (f : SourceFormat) (base k n : Nat) (bytes : List Byte) :
    formWords f base k (chunks f.bytesPerPixel n bytes) = (List.range n).map fun j =>
      BufferedWord.mk (base + 4 * (k + j))
        (expandPixel f ((bytes.drop (j * f.bytesPerPixel)).take f.bytesPerPixel)) := by
  rw [formWords_eq, chunks_length]
  refine List.map_congr_left fun j hj => ?_
  rw [chunks_getD _ _ _ (List.mem_range.1 hj)]

/-- A channel OPEN after data that do not end its load, or with a word to write, has not drained (R147, R150). -/
theorem Channel.take_not_drained {x : Channel} (hopen : x.state = .opened) (base : Nat) {data : List Byte}
    (hgoesOn : x.received + (x.taking data).length ≠ x.byteCount ∨ 0 < x.buffer.length + x.completes data) :
    ¬ ((x.take base data).state = .ending ∧ (x.take base data).buffer = []) := by
  rintro ⟨hending, hbuffer⟩
  have hempty := x.take_buffer_length base data
  rw [hbuffer, List.length_nil] at hempty
  have hlacks := hgoesOn.resolve_right (by omega)
  have hstate : (x.take base data).state = x.state := if_neg hlacks
  simp [hstate, hopen] at hending

/-- A channel after data, its words by their place (R147). -/
theorem Channel.take_eq {x : Channel} (hopen : x.state = .opened)
    (hsplit : x.holding.length = x.received % x.format.bytesPerPixel) (base : Nat) (data : List Byte) :
    x.take base data = { x with
      received := x.received + (x.taking data).length
      holding := (x.loose data).drop (x.completes data * x.format.bytesPerPixel)
      buffer := x.buffer ++ (List.range (x.completes data)).map fun j =>
        BufferedWord.mk (base + 4 * (x.received / x.format.bytesPerPixel + j))
          (expandPixel x.format (((x.loose data).drop (j * x.format.bytesPerPixel)).take x.format.bytesPerPixel))
      stall := 0
      state := if x.received + (x.taking data).length = x.byteCount then .ending else .opened } := by
  rw [Channel.take, formWords_chunks, Channel.formed_eq hsplit, hopen]

/-- A LOAD_DATA taken, its drain not ended at once (R147). -/
theorem loadData_taken {c : LoadChannel} {s : State} {x : Channel} (hx : s.pictures.channel c = x)
    (hopen : x.state = .opened) (hoffset : x.received < 2 ^ 32) {data : List Byte}
    (hroom : 4 * x.completes data ≤ 4096 - 4 * x.buffer.length)
    (hgoesOn : x.received + (x.taking data).length ≠ x.byteCount ∨ 0 < x.buffer.length + x.completes data)
    (unused : Byte × Byte × Byte) :
    loadData (loadPayload c unused x.received data) s = .ok (s.setPictures
      (({ s.pictures with
        surplus := bumpBy s.pictures.surplus (data.length - (x.taking data).length) } : Pictures).setChannel c
          (x.take (s.setup.tiles.read x.tile.toNat).base.toNat data))) := by
  subst hx
  have hpictures (y : Channel) (n : Word16) : { s.pictures.setChannel c y with surplus := n } =
      ({ s.pictures with surplus := n } : Pictures).setChannel c y := by
    cases c <;> rfl
  rw [loadData_payload c unused hoffset, if_neg (not_not_intro hopen), if_neg (not_not_intro rfl),
    if_neg (Nat.not_lt.2 hroom), hpictures]
  congr 1
  rcases endDrain_cases c (s.setPictures (({ s.pictures with
      surplus := bumpBy s.pictures.surplus (data.length - ((s.pictures.channel c).taking data).length) } :
        Pictures).setChannel c ((s.pictures.channel c).take
          (s.setup.tiles.read (s.pictures.channel c).tile.toNat).base.toNat data))) with ⟨hending, hbuffer, -⟩ | ⟨-, e⟩
  · rw [State.setPictures_pictures, Pictures.channel_setChannel] at hending hbuffer
    exact absurd ⟨hending, hbuffer⟩ (Channel.take_not_drained hopen _ hgoesOn)
  · exact e

theorem loadDataTakes : Claims.LoadDataTakes := by
  intro c unused data s x b taken loose words base received hopen hoffset hroom hsplit hgoesOn
  rw [exec_loadData, loadData_taken (x := x) rfl hopen hoffset hroom hgoesOn, Channel.take_eq hopen hsplit]
  rfl

/-! ## Pixels (R148) -/

theorem pixelExpansion : Claims.PixelExpansion := by
  refine ⟨fun _ _ _ => rfl, fun _ _ _ _ => rfl, fun low high => ?_, by decide, by decide⟩
  have hlow := low.isLt
  have hpixel : field [low, high] 0 2 = low.toNat + 256 * high.toNat := rfl
  have hred : (low.toNat + 256 * high.toNat) / 2048 = high.toNat / 8 := by omega
  have hgreen : (low.toNat + 256 * high.toNat) / 32 % 64 = high.toNat % 8 * 8 + low.toNat / 32 := by omega
  have hblue : (low.toNat + 256 * high.toNat) % 32 = low.toNat % 32 := by omega
  simp only [expandPixel, hpixel, hred, hgreen, hblue]
  rfl

/-- Settles O42: the payload is read back, the checks follow one another, and the data taken are words and bytes that
wait. -/
theorem loadDataOutcome : Obligations.LoadDataOutcome := ⟨loadDataRefusals, loadDataTakes, pixelExpansion⟩

end Sys2Proof.Machine
end

section
/-! PROOFS. LOAD_END and LOAD_ABORT, DRAIN_END and STALL_ABORT as rows of their own, and what a boundary counts (R150 to
R153). -/

namespace Sys2Proof.Machine

/-! ## The channel number of a one-byte payload (R151, R152) -/

theorem oneChannel_badLength {payload : List Byte} (h : payload.length ≠ 1) : oneChannel payload = .error .badLength :=
  if_pos h

theorem oneChannel_badField {n : Byte} (h : 1 < n.toNat) : oneChannel [n] = .error .badField := by
  have hnone : channelOfNumber (byteAt [n] 0).toNat = none := channelOfNumber_none h
  simp only [oneChannel, hnone]
  rfl

@[simp] theorem oneChannel_number (c : LoadChannel) : oneChannel [LoadChannel.number c] = .ok c := by
  cases c <;> rfl

/-! ## The end of a drain, by its channel (R150) -/

theorem endDrain_going {c : LoadChannel} {s : State}
    (h : (s.pictures.channel c).state ≠ .ending ∨ (s.pictures.channel c).buffer ≠ []) : endDrain c s = s :=
  if_neg fun hends => h.elim (· hends.1) (· hends.2)

theorem endDrain_ending {c : LoadChannel} {s : State} (hending : (s.pictures.channel c).state = .ending)
    (hbuffer : (s.pictures.channel c).buffer = []) : endDrain c s = s.setPictures
      ((s.pictures.setTile (s.pictures.channel c).tile
        (if (s.pictures.channel c).endRows = some 0 then ⟨.empty, 0⟩
        else ⟨.ready, (s.pictures.channel c).endRows.getD
          (s.setup.tiles.read (s.pictures.channel c).tile.toNat).height.toNat⟩)).setChannel c
        (s.pictures.channel c).retire) := by
  rw [← drainedRecord_eq]
  exact if_pos ⟨hending, hbuffer⟩

/-- The end of a drain in a state that has just set the channel (R150). -/
theorem endDrain_setChannel (s : State) (c : LoadChannel) (x : Channel) :
    endDrain c (s.setPictures (s.pictures.setChannel c x)) = s.setPictures
      (if x.state = .ending ∧ x.buffer = [] then
        (s.pictures.setTile x.tile (if x.endRows = some 0 then ⟨.empty, 0⟩
          else ⟨.ready, x.endRows.getD (s.setup.tiles.read x.tile.toNat).height.toNat⟩)).setChannel c x.retire
      else s.pictures.setChannel c x) := by
  have hchannel : (s.setPictures (s.pictures.setChannel c x)).pictures.channel c = x := by simp
  split
  next hends =>
    rw [endDrain_ending (by rw [hchannel]; exact hends.1) (by rw [hchannel]; exact hends.2), hchannel]
    simp only [State.setPictures_pictures, State.setPictures_setup, Pictures.setTile_setChannel,
      Pictures.setChannel_twice, State.setPictures_twice]
  next hgoes => exact endDrain_going (by rw [hchannel]; exact not_and_or.1 hgoes)

/-- DRAIN_END acts where the cause of a drain's end stands (R150). -/
theorem drainEndOutcome : Claims.DrainEndOutcome := by
  refine fun c s => ⟨fun hgoes => ?_, fun hending hbuffer => ?_⟩
  · exact congrArg Host.Outcome.next (endDrain_going hgoes)
  · exact congrArg Host.Outcome.next (endDrain_ending hending hbuffer)

/-! ## LOAD_END (R151) -/

theorem exec_loadEnd (payload : List Byte) (s : State) :
    exec (.loadEnd payload) s = .next (settle .loadEnd s (loadEnd payload s)) := rfl

theorem loadEnd_channel (c : LoadChannel) (s : State) : loadEnd [LoadChannel.number c] s =
    if (s.pictures.channel c).state ≠ .opened then .error .notOpen
    else .ok (endDrain c (s.setPictures (s.pictures.setChannel c
      ((s.pictures.channel c).cut (s.setup.tiles.read (s.pictures.channel c).tile.toNat))))) := by
  rw [loadEnd, oneChannel_number]

theorem loadEndOutcome : Claims.LoadEndOutcome := by
  refine ⟨fun payload s hlen => ?_, fun n s hn => ?_, fun c s => ?_⟩
  · rw [exec_loadEnd, loadEnd, oneChannel_badLength hlen]
    rfl
  · rw [exec_loadEnd, loadEnd, oneChannel_badField hn]
    rfl
  · intro x e rows left
    rw [exec_loadEnd, loadEnd_channel]
    refine ⟨fun hclosed => ?_, fun hopen hleft => ?_, fun hopen hleft => ?_⟩
    · rw [if_pos hclosed]
      rfl
    · rw [if_neg (not_not_intro hopen), endDrain_setChannel, if_neg fun hends => hleft hends.2]
      rfl
    · have hrecord : (if (x.cut e).endRows = some 0 then ⟨.empty, 0⟩
          else ⟨.ready, (x.cut e).endRows.getD e.height.toNat⟩ : TileRecord) =
          if rows = 0 then ⟨.empty, 0⟩ else ⟨.ready, rows⟩ := by
        simp only [Channel.cut, Option.some.injEq, Option.getD_some]
        rfl
      rw [if_neg (not_not_intro hopen), endDrain_setChannel, if_pos ⟨rfl, hleft⟩, ← hrecord]
      rfl

/-! ## LOAD_ABORT (R152) -/

theorem exec_loadAbort (payload : List Byte) (s : State) :
    exec (.loadAbort payload) s = .next (settle .loadAbort s (loadAbort payload s)) := rfl

theorem loadAbortOutcome : Claims.LoadAbortOutcome := by
  refine ⟨fun payload s hlen => ?_, fun n s hn => ?_, fun c s => ?_⟩
  · rw [exec_loadAbort, loadAbort, oneChannel_badLength hlen]
    rfl
  · rw [exec_loadAbort, loadAbort, oneChannel_badField hn]
    rfl
  · intro x
    rw [exec_loadAbort, loadAbort, oneChannel_number]
    refine ⟨fun hidle => ?_, fun hbusy => ?_⟩
    · exact congrArg Host.Outcome.next (if_pos hidle)
    · exact congrArg Host.Outcome.next (if_neg hbusy)

/-- Settles O43: the channel number is read, a load is cut or discarded, and what it leaves to write decides whether its
drain ends. -/
theorem loadEndings : Obligations.LoadEndings := ⟨loadEndOutcome, loadAbortOutcome⟩

/-! ## Stalled loads (R153) -/

theorem exec_stallAbort (c : LoadChannel) (s : State) :
    exec (.stallAbort c) s = .next (s.setPictures (stallOut c s.pictures)) := rfl

theorem exec_stallAbort_going {c : LoadChannel} {s : State}
    (h : (s.pictures.channel c).state ≠ .opened ∨ (s.pictures.channel c).stall < 120) :
    exec (.stallAbort c) s = .next s := by
  rw [exec_stallAbort]
  rcases stallOut_cases c s.pictures with ⟨hopen, hstall, -⟩ | ⟨-, e⟩
  · exact absurd hstall (Nat.not_le.2 (h.resolve_left (not_not_intro hopen)))
  · rw [e]
    rfl

theorem exec_stallAbort_stalled {c : LoadChannel} {s : State} (hopen : (s.pictures.channel c).state = .opened)
    (hstall : 120 ≤ (s.pictures.channel c).stall) : exec (.stallAbort c) s = .next (s.setPictures
      (({ s.pictures with
        directory := s.pictures.directory.write (s.pictures.channel c).tile.toNat ⟨.empty, 0⟩
        stalls := bump s.pictures.stalls } : Pictures).setChannel c (s.pictures.channel c).retire)) := by
  rw [exec_stallAbort]
  rcases stallOut_cases c s.pictures with ⟨-, -, e⟩ | ⟨hgoes, -⟩
  · rw [e]
    cases c <;> rfl
  · exact absurd hstall (Nat.not_le.2 (hgoes.resolve_left (not_not_intro hopen)))

/-- A boundary brings a load's stall count to 120. -/
def Channel.StallsOut (x : Channel) : Prop := x.state = .opened ∧ 119 ≤ x.stall

section
variable (p : Pictures) (c : LoadChannel)

theorem Pictures.countOn_other : (p.countOn c).channel (otherChannel c) = p.channel (otherChannel c) := by
  rcases p.countOn_cases c with ⟨-, e⟩ | ⟨-, -, e⟩ | ⟨-, -, e⟩ <;> rw [e]
  · simp
  · cases c <;> rfl

theorem Pictures.countOn_surplus : (p.countOn c).surplus = p.surplus := by
  rcases p.countOn_cases c with ⟨-, e⟩ | ⟨-, -, e⟩ | ⟨-, -, e⟩ <;> rw [e]
  · simp
  · cases c <;> rfl

/-- A boundary's part of a channel, as the channel sees it (R153). -/
theorem Pictures.countOn_channel :
    ((p.channel c).state ≠ .opened → (p.countOn c).channel c = p.channel c) ∧
    ((p.channel c).state = .opened → (p.channel c).stall < 119 →
      (p.countOn c).channel c = { p.channel c with stall := (p.channel c).stall + 1 }) ∧
    ((p.channel c).StallsOut → (p.countOn c).channel c = (p.channel c).retire) := by
  rcases p.countOn_cases c with ⟨hclosed, e⟩ | ⟨hopen, hstall, e⟩ | ⟨hopen, hstall, e⟩ <;> rw [e]
  · exact ⟨fun _ => rfl, fun hopen => absurd hopen hclosed, fun hout => absurd hout.1 hclosed⟩
  · exact ⟨fun hclosed => absurd hopen hclosed, fun _ _ => by simp, fun hout => absurd hout.2 (Nat.not_le.2 hstall)⟩
  · exact ⟨fun hclosed => absurd hopen hclosed, fun _ h => absurd hstall (Nat.not_le.2 h), fun _ => by cases c <;> rfl⟩

/-- A boundary's part of a channel, as the counter and the tiles see it (R153). -/
theorem Pictures.countOn_aborts :
    ((p.channel c).StallsOut ∧ (p.countOn c).stalls = bump p.stalls ∧
      (p.countOn c).directory = p.directory.write (p.channel c).tile.toNat ⟨.empty, 0⟩) ∨
    (¬ (p.channel c).StallsOut ∧ (p.countOn c).stalls = p.stalls ∧ (p.countOn c).directory = p.directory) := by
  rcases p.countOn_cases c with ⟨hclosed, e⟩ | ⟨hopen, hstall, e⟩ | ⟨hopen, hstall, e⟩ <;> rw [e]
  · exact .inr ⟨fun hout => hclosed hout.1, rfl, rfl⟩
  · exact .inr ⟨fun hout => absurd hout.2 (Nat.not_le.2 hstall), by simp, by simp⟩
  · refine .inl ⟨⟨hopen, hstall⟩, rfl, ?_⟩
    show (p.abort c).directory = _
    rw [Pictures.abort, Pictures.setChannel_directory]
    rfl

end

/-- Each channel is counted on for itself (R153). -/
theorem Pictures.countOn_congr {p q : Pictures} {c : LoadChannel} (h : p.channel c = q.channel c) :
    (p.countOn c).channel c = (q.countOn c).channel c := by
  unfold Pictures.countOn stallOut
  simp only [Pictures.channel_setChannel, h]
  split
  · cases c <;> rfl
  · simp

theorem Pictures.boundary_channel (p : Pictures) (c : LoadChannel) :
    p.boundary.channel c = (p.countOn c).channel c := by
  rw [Pictures.boundary_eq]
  cases c with
  | a => exact (p.countOn .a).countOn_other .b
  | b => exact Pictures.countOn_congr (p.countOn_other .a)

theorem Pictures.countOn_read (p : Pictures) (c : LoadChannel) (k : Byte) :
    ((p.channel c).StallsOut → (p.channel c).tile = k → (p.countOn c).directory.read k.toNat = ⟨.empty, 0⟩) ∧
    (((p.channel c).StallsOut → (p.channel c).tile ≠ k) →
      (p.countOn c).directory.read k.toNat = p.directory.read k.toNat) := by
  rcases p.countOn_aborts c with ⟨hout, -, e⟩ | ⟨hkept, -, e⟩ <;> rw [e]
  · exact ⟨fun _ hk => by rw [hk, Table.read_write_same],
      fun hk => Table.read_write_other _ _ fun hsame => hk hout (BitVec.toNat_inj.1 hsame).symm⟩
  · exact ⟨fun hout => absurd hout hkept, fun _ => rfl⟩

section
variable (p : Pictures)

/-- The tile of an aborted load is EMPTY, whatever the other channel does (R152, R153). -/
theorem Pictures.boundary_read_aborted {c : LoadChannel} (hout : (p.channel c).StallsOut) :
    p.boundary.directory.read (p.channel c).tile.toNat = ⟨.empty, 0⟩ := by
  have other : (p.countOn .a).channel .b = p.channel .b := p.countOn_other .a
  obtain ⟨hemptied, hkept⟩ := (p.countOn .a).countOn_read .b (p.channel c).tile
  rw [other] at hemptied hkept
  rw [Pictures.boundary_eq]
  cases c with
  | a =>
    by_cases hb : (p.channel .b).StallsOut ∧ (p.channel .b).tile = (p.channel .a).tile
    · exact hemptied hb.1 hb.2
    · exact (hkept fun hbout hsame => hb ⟨hbout, hsame⟩).trans ((p.countOn_read .a _).1 hout rfl)
  | b => exact hemptied hout rfl

/-- Tiles of no aborted load stay as they were (R153). -/
theorem Pictures.boundary_read_kept {k : Byte} (h : ∀ c, (p.channel c).StallsOut → (p.channel c).tile ≠ k) :
    p.boundary.directory.read k.toNat = p.directory.read k.toNat := by
  have other : (p.countOn .a).channel .b = p.channel .b := p.countOn_other .a
  obtain ⟨-, hkept⟩ := (p.countOn .a).countOn_read .b k
  rw [other] at hkept
  rw [Pictures.boundary_eq]
  exact (hkept (h .b)).trans ((p.countOn_read .a k).2 (h .a))

theorem bump_toNat (c : Word16) : (bump c).toNat = min 65535 (c.toNat + 1) := by
  unfold bump
  split
  · rename_i h
    subst h
    rfl
  · rename_i h
    have hlt : c.toNat < 65535 := by bv_omega
    rw [BitVec.toNat_add]
    show (c.toNat + 1) % 65536 = _
    omega

theorem Pictures.countOn_stalls (c : LoadChannel) : (p.countOn c).stalls.toNat =
    min 65535 (p.stalls.toNat + if (p.channel c).state = .opened ∧ 119 ≤ (p.channel c).stall then 1 else 0) := by
  have hbound := p.stalls.isLt
  rcases p.countOn_aborts c with ⟨hout, e, -⟩ | ⟨hkept, e, -⟩ <;> rw [e]
  · have hout' : (p.channel c).state = .opened ∧ 119 ≤ (p.channel c).stall := hout
    rw [bump_toNat, if_pos hout']
  · have hkept' : ¬ ((p.channel c).state = .opened ∧ 119 ≤ (p.channel c).stall) := hkept
    rw [if_neg hkept']
    omega

/-- Each aborted load is counted (R153). -/
theorem Pictures.boundary_stalls : p.boundary.stalls.toNat =
    min 65535 (p.stalls.toNat + [LoadChannel.a, .b].countP fun d =>
      decide ((p.channel d).state = .opened ∧ 119 ≤ (p.channel d).stall)) := by
  have other : (p.countOn .a).channel .b = p.channel .b := p.countOn_other .a
  rw [Pictures.boundary_eq, Pictures.countOn_stalls, Pictures.countOn_stalls, other]
  simp only [List.countP_cons, List.countP_nil, decide_eq_true_eq]
  omega

end

theorem stallAbortOutcome : Claims.StallAbortOutcome := by
  refine ⟨fun c s => ⟨exec_stallAbort_going, exec_stallAbort_stalled⟩, fun source c s => ?_⟩
  intro x t
  have hboundary : t = s.pictures.boundary := frameBoundary_pictures source s
  rw [hboundary, Pictures.boundary_channel]
  obtain ⟨hclosed, hcounted, hout⟩ := s.pictures.countOn_channel c
  refine ⟨hclosed, hcounted, fun hopen hstall => ⟨hout ⟨hopen, hstall⟩, ?_⟩, s.pictures.boundary_stalls, ?_, ?_⟩
  · exact s.pictures.boundary_read_aborted ⟨hopen, hstall⟩
  · rw [Pictures.boundary_eq, Pictures.countOn_surplus, Pictures.countOn_surplus]
  · exact fun k hk => s.pictures.boundary_read_kept hk

/-- Settles O44: each row acts where its cause stands, and a boundary acts on each channel for itself. -/
theorem loadEvents : Obligations.LoadEvents := ⟨drainEndOutcome, stallAbortOutcome⟩

end Sys2Proof.Machine
end

section
/-! PROOFS. Grants: who is granted, what a burst read leaves, what a burst write leaves, and the ends of a line fetch
and of a window (R138, R139, R142, R149, R150, R161, R164 to R167). -/

namespace Sys2Proof.Machine

/-! ## Who is granted (R149, R166, R167) -/

/-- The channel grants and the load share that a grant is chosen by: those of the window in progress, or of the one that
the grant begins (R167). -/
theorem Arbiter.window_fields (a : Arbiter) (canvas : CanvasEntry) :
    (a.window canvas).channelGrants = (if a.grants = 0 then 0 else a.channelGrants) ∧
    (a.window canvas).share = if a.grants = 0 then canvas.loadShare.toNat else a.share := by
  unfold Arbiter.window
  split <;> exact ⟨rfl, rfl⟩

section
variable {p : Pictures}

theorem askingChannel_a (h : p.channelA.asks = true) : askingChannel p = some .a := if_pos h

theorem askingChannel_b (h : ¬ p.channelA.asks = true) (hb : p.channelB.asks = true) : askingChannel p = some .b := by
  rw [askingChannel, if_neg h, if_pos hb]

theorem askingChannel_none (h : ¬ p.channelA.asks = true) (hb : ¬ p.channelB.asks = true) : askingChannel p = none := by
  rw [askingChannel, if_neg h, if_neg hb]

end

/-- A channel that asks is granted where the Fetch Unit has no burst pending, or the window has room for it (R166). -/
theorem chooseRequester_channel {pending below : Bool} (c : LoadChannel) (h : pending = false ∨ below = true) :
    chooseRequester pending (some c) below = some (.channel c) := by
  rcases h with rfl | rfl
  · rfl
  · cases pending <;> rfl

/-- The Fetch Unit is granted where no channel asks, or the window has no more room for one (R166). -/
theorem chooseRequester_fetchUnit {asking : Option LoadChannel} {below : Bool} (h : asking = none ∨ below = false) :
    chooseRequester true asking below = some .fetchUnit := by
  rcases h with rfl | rfl
  · rfl
  · cases asking <;> rfl

theorem grantChoice : Claims.GrantChoice := by
  intro s asks a b granted share
  have ha : a ↔ s.pictures.channelA.asks = true := (Channel.asks_iff _).symm
  have hb : b ↔ s.pictures.channelB.asks = true := (Channel.asks_iff _).symm
  have hgrantee : grantee s =
      chooseRequester s.fetch.fetching (askingChannel s.pictures) (decide (granted < share)) := by
    obtain ⟨hgrants, hshare⟩ := s.arbiter.window_fields s.setup.canvas
    rw [grantee, hgrants, hshare]
  rw [hgrantee, ha, hb]
  refine ⟨fun hpending hfull => ?_, fun hroom hasks => ?_, fun hroom hidle hasks => ?_,
    fun hpending hidleA hidleB => ?_⟩
  · rw [hpending]
    refine chooseRequester_fetchUnit (hfull.imp (fun hidle => askingChannel_none hidle.1 hidle.2) fun hshare => ?_)
    simpa using hshare
  · rw [askingChannel_a hasks]
    exact chooseRequester_channel .a (hroom.imp_right (by simpa using ·))
  · rw [askingChannel_b hidle hasks]
    exact chooseRequester_channel .b (hroom.imp_right (by simpa using ·))
  · have hnone : grantee s = none := by
      rw [hgrantee, hpending, askingChannel_none hidleA hidleB]
      rfl
    rw [← hgrantee]
    refine ⟨hnone, fun check => ?_⟩
    show execGrant check s = _
    rw [execGrant, hnone]

/-! ## The ends of a line fetch and of a window (R161, R167) -/

theorem fetchEventsOutcome : Claims.FetchEventsOutcome := by
  refine fun s => ⟨fun hdone => ?_, fun hmore => ?_, fun hfull => ?_, fun hroom => ?_⟩
  · show Host.Outcome.next (s.setFetch s.fetch.finishLine) = _
    rw [Fetch.finishLine, if_pos hdone]
    rfl
  · show Host.Outcome.next (s.setFetch s.fetch.finishLine) = _
    rw [Fetch.finishLine, if_neg hmore]
    rfl
  · show Host.Outcome.next (s.setArbiter s.arbiter.close) = _
    rw [Arbiter.close, if_pos hfull]
    rfl
  · show Host.Outcome.next (s.setArbiter s.arbiter.close) = _
    rw [Arbiter.close, if_neg (Nat.not_le.2 hroom)]
    rfl

/-- Settles O48: the choice by who asks and what room the window has; the two rows by their cause. -/
theorem grantsAndWindows : Obligations.GrantsAndWindows := ⟨grantChoice, fetchEventsOutcome⟩

/-! ## A burst read (R161, R164, R165) -/

/-- A fetch that has entries left goes on, and one that has none is IDLE (R161). -/
theorem Fetch.finishLine_eq {f : Fetch} (h : f.fetching = true) :
    f.finishLine = { f with fetching := !f.todo.isEmpty } := by
  unfold Fetch.finishLine
  split
  · rename_i hdone
    rw [hdone]
    rfl
  · rename_i hmore
    have hgoes : (!f.todo.isEmpty) = f.fetching := by simp [h, hmore]
    rw [hgoes]

/-- A grant of the Fetch Unit with an entry at the head of its list (R161, R166). -/
theorem exec_grant_fetchUnit {s : State} (h : grantee s = some .fetchUnit) (check : ReadCheck) :
    exec (.grant check) s = readBurst check (s.setArbiter (windowAfter s false)) := by
  show execGrant check s = _
  rw [execGrant, h]
  exact congrArg (fun a => readBurst check (s.setArbiter a)) (windowAfter_fetchUnit s)

/-- The words of a burst that belong to an entry's span, address by address (R138, R161). -/
theorem spanWords_eq (m : PictureMemory) (e : FetchEntry) : spanWords m e =
    (((List.range 8).map fun j => e.nextBurst * 32 + 4 * j).filter fun a =>
      decide (e.first ≤ a ∧ a < e.past)).map fun a =>
        Rgba.mk (m.read a) (m.read (a + 1)) (m.read (a + 2)) (m.read (a + 3)) := by
  simp only [spanWords, burstWords, Bool.decide_and, Nat.mul_comm]
  rfl

section
variable {f : Fetch} (h : f.fetching = true) (e : FetchEntry) (rest : List FetchEntry)
include h

theorem Fetch.takeBurst_eq (m : PictureMemory) : f.takeBurst m e rest = { f with
    filling := fillStore f.filling e.slot (spanWords m e) (decide (e.lastBurst ≤ e.nextBurst))
    todo := if decide (e.lastBurst ≤ e.nextBurst) then rest else { e with nextBurst := e.nextBurst + 1 } :: rest
    fetching := !(if decide (e.lastBurst ≤ e.nextBurst) then rest
      else { e with nextBurst := e.nextBurst + 1 } :: rest).isEmpty } :=
  Fetch.finishLine_eq (f := { f with
    filling := fillStore f.filling e.slot (spanWords m e) (decide (e.lastBurst ≤ e.nextBurst))
    todo := if decide (e.lastBurst ≤ e.nextBurst) then rest else { e with nextBurst := e.nextBurst + 1 } :: rest }) h

theorem Fetch.abandonEntry_eq : f.abandonEntry e rest = { f with
    uncorrectable := bump f.uncorrectable
    tileLatch := f.tileLatch.write e.tile.toNat notReady
    todo := rest
    fetching := !rest.isEmpty } :=
  Fetch.finishLine_eq (f := { f with
    uncorrectable := bump f.uncorrectable
    tileLatch := f.tileLatch.write e.tile.toNat notReady
    todo := rest }) h

end

theorem PictureMemory.check_unmarked {m : PictureMemory} {burst : Nat} (h : m.oneBitBursts.read burst = false)
    (found : ReadCheck) : m.check burst found = found :=
  if_neg fun hmarked => by simp [h] at hmarked

theorem PictureMemory.check_oneBit {m : PictureMemory} {burst : Nat} {found : ReadCheck}
    (h : found = .oneBit ∨ (found = .clean ∧ m.oneBitBursts.read burst = true)) : m.check burst found = .oneBit := by
  rcases h with rfl | hmarked
  · exact if_neg fun hclean => by cases hclean.1
  · exact if_pos hmarked

theorem PictureMemory.check_manyBits (m : PictureMemory) (burst : Nat) : m.check burst .manyBits = .manyBits :=
  if_neg fun hclean => by cases hclean.1

/-- A grant of the Fetch Unit with an entry at the head of its list, by what the check of the next burst finds (R161,
R164, R165). -/
theorem exec_grant_head {s : State} {e : FetchEntry} {rest : List FetchEntry} (hgrantee : grantee s = some .fetchUnit)
    (htodo : s.fetch.todo = e :: rest) (hwithin : e.nextBurst * 32 < memoryBytes) (check : ReadCheck) :
    exec (.grant check) s = .next (match s.memory.check e.nextBurst check with
      | .clean => { s with arbiter := windowAfter s false, fetch := s.fetch.takeBurst s.memory e rest }
      | .oneBit => { s with
        arbiter := windowAfter s false
        memory := { s.memory with oneBitBursts := s.memory.oneBitBursts.write e.nextBurst true }
        fetch := Fetch.takeBurst { s.fetch with corrected := bump s.fetch.corrected } s.memory e rest }
      | .manyBits => { s with
        arbiter := windowAfter s false
        fetch := s.fetch.abandonEntry e rest
        pictures := s.pictures.reportFault e.tile }) := by
  rw [exec_grant_fetchUnit hgrantee]
  rcases readBurst_cases check (s.setArbiter (windowAfter s false)) with ⟨hnone, -⟩ | ⟨e', rest', htodo', hread⟩
  · cases htodo.symm.trans hnone
  · obtain ⟨rfl, rfl⟩ := List.cons.inj (htodo.symm.trans htodo')
    rcases hread with ⟨hpast, -⟩ | ⟨-, ⟨hcheck, hnext⟩ | ⟨hcheck, hnext⟩ | ⟨hcheck, hnext⟩⟩
    · omega
    all_goals
      rw [hnext, show s.memory.check e.nextBurst check = _ from hcheck]
      rfl

/-- Settles O46: what the check finds decides; the words read are those of the span, and an entry left makes the fetch
go on. -/
theorem grantReadsBurst : Obligations.GrantReadsBurst := by
  unfold Obligations.GrantReadsBurst
  intro s e rest hgrantee htodo hwithin complete words todo filled marked
  have hfetching := grantee_fetchUnit hgrantee
  have hread := exec_grant_head hgrantee htodo hwithin
  have htake (n : Word16) : Fetch.takeBurst { s.fetch with corrected := n } s.memory e rest =
      { filled with corrected := n } := by
    refine (Fetch.takeBurst_eq (f := { s.fetch with corrected := n }) hfetching e rest s.memory).trans ?_
    rw [spanWords_eq]
    rfl
  refine ⟨fun hmarked => ?_, fun check hfound => ?_, ?_⟩
  · rw [hread, PictureMemory.check_unmarked hmarked]
    exact congrArg (fun f => Host.Outcome.next { s with arbiter := windowAfter s false, fetch := f }) (htake _)
  · rw [hread, PictureMemory.check_oneBit hfound]
    exact congrArg (fun f => Host.Outcome.next { s with
      arbiter := windowAfter s false
      memory := { s.memory with oneBitBursts := s.memory.oneBitBursts.write e.nextBurst true }
      fetch := f }) (htake _)
  · rw [hread, PictureMemory.check_manyBits, Fetch.abandonEntry_eq hfetching]
    rfl

/-! ## A burst written (R138, R139, R149, R150) -/

section
variable {s : State} {c : LoadChannel} {w : BufferedWord} {behind : List BufferedWord}
  (hbuffer : (s.pictures.channel c).buffer = w :: behind) (hwithin : w.burst * 32 < memoryBytes)
include hbuffer hwithin

/-- A channel that holds a word writes the burst of its first word, and the drain may end there (R149, R150). -/
theorem writeBurst_front : writeBurst c s = .next (endDrain c
    ((s.setMemory (s.memory.writeBurst w.burst (burstBytes (frontWords (w :: behind)) w.burst))).setPictures
      (s.pictures.setChannel c { s.pictures.channel c with buffer := behindFront (w :: behind) }))) := by
  rcases writeBurst_cases c s with ⟨hempty, -⟩ | ⟨w', behind', hbuffer', hburst⟩
  · cases hbuffer.symm.trans hempty
  · obtain ⟨rfl, rfl⟩ := List.cons.inj (hbuffer.symm.trans hbuffer')
    rcases hburst with ⟨hpast, -⟩ | ⟨-, hnext⟩
    · omega
    · rw [hnext, hbuffer']

theorem exec_grant_channel (hgrantee : grantee s = some (.channel c)) (check : ReadCheck) :
    exec (.grant check) s = .next (endDrain c (((s.setArbiter (windowAfter s true)).setMemory
      (s.memory.writeBurst w.burst (burstBytes (frontWords (w :: behind)) w.burst))).setPictures
      (s.pictures.setChannel c { s.pictures.channel c with buffer := behindFront (w :: behind) }))) := by
  have hwrites : exec (.grant check) s = writeBurst c (s.setArbiter (windowAfter s true)) := by
    show execGrant check s = _
    rw [execGrant, hgrantee]
    exact congrArg (fun a => writeBurst c (s.setArbiter a)) (windowAfter_channel s c)
  exact hwrites.trans (writeBurst_front (s := s.setArbiter (windowAfter s true)) hbuffer hwithin)

end

/-- Byte `i` of words written one after the other is byte `i % 4` of word `i / 4` (R138). -/
theorem getD_flatMap_wordBytes (word : Nat → Rgba) (addresses : List Nat) (i : Nat) :
    (addresses.flatMap fun a => wordBytes (word a)).getD i 0 =
      (addresses[i / 4]?.map fun a => (wordBytes (word a)).getD (i % 4) 0).getD 0 := by
  induction addresses generalizing i with
  | nil => rfl
  | cons a rest ih =>
    have hlength : (wordBytes (word a)).length = 4 := rfl
    rw [List.flatMap_cons]
    by_cases hi : i < 4
    · rw [List.getD_append _ _ _ _ (hlength ▸ hi), Nat.div_eq_of_lt hi, Nat.mod_eq_of_lt hi]
      rfl
    · rw [List.getD_append_right _ _ _ _ (by omega), ih, hlength]
      obtain ⟨j, rfl⟩ := Nat.exists_eq_add_of_le' (Nat.not_lt.1 hi)
      simp

/-- A byte of a burst is its byte of the word at the word address it lies in (R138, R149). -/
theorem burstBytes_getD (words : List BufferedWord) (a : Nat) :
    (burstBytes words (a / 32)).getD (a % 32) 0 = (wordBytes (suppliedWord words (a / 4 * 4))).getD (a % 4) 0 := by
  have hj : a % 32 / 4 < 8 := by omega
  have hword : (burstWords (a / 32))[a % 32 / 4]? = some (a / 4 * 4) := by
    simp only [burstWords, List.getElem?_map, List.getElem?_range hj, Option.map_some, Option.some.injEq]
    omega
  rw [burstBytes, getD_flatMap_wordBytes, hword, Nat.mod_mod_of_dvd a (by decide)]
  rfl

theorem wordBytes_getD (w : Rgba) (k : Nat) (hk : k < 4) : (wordBytes w).getD k 0 =
    if k = 0 then w.red else if k = 1 then w.green else if k = 2 then w.blue else w.alpha := by
  interval_cases k <;> rfl

/-- A byte of the front burst as it is written: that of the load's word there, or zero where the load supplies none
(R149). -/
theorem burstBytes_supplied (words : List BufferedWord) (a : Nat) :
    (burstBytes words (a / 32)).getD (a % 32) 0 = match words.find? fun v => v.address == a / 4 * 4 with
      | none => (0 : Byte)
      | some v => if a % 4 = 0 then v.word.red else if a % 4 = 1 then v.word.green
          else if a % 4 = 2 then v.word.blue else v.word.alpha := by
  rw [burstBytes_getD, wordBytes_getD _ _ (Nat.mod_lt _ (by decide)), suppliedWord]
  cases words.find? fun v => v.address == a / 4 * 4 with
  | none => simp
  | some v => rfl

/-- Settles O47: the burst's bytes are those of the supplied words; the drain ends where the ENDING channel's buffer is
empty behind the front burst. -/
theorem grantWritesBurst : Obligations.GrantWritesBurst := by
  unfold Obligations.GrantWritesBurst
  intro check s c w behind hgrantee hbuffer hwithin x front left supplied written
  refine ⟨s.memory.writeBurst w.burst (burstBytes front w.burst), ?_, fun a => ?_, fun k => ?_⟩
  · rw [exec_grant_channel hbuffer hwithin hgrantee]
    change Host.Outcome.next (endDrain c (((s.setArbiter _).setMemory
      (s.memory.writeBurst _ (burstBytes front _))).setPictures _)) = _
    generalize s.memory.writeBurst w.burst (burstBytes front w.burst) = m
    exact congrArg Host.Outcome.next (endDrain_setChannel ((s.setArbiter _).setMemory m) c { x with buffer := left })
  · rw [PictureMemory.read_writeBurst_eq _ _ _ (burstBytes_length _ _)]
    refine ite_congr rfl (fun hinside => ?_) fun _ => rfl
    rw [← show a / 32 = w.burst from hinside]
    exact burstBytes_supplied front a
  · exact Table.read_write _ _ _ _

end Sys2Proof.Machine
end

section
/-! PROOFS. The fetch entry of a slot on a line: whether there is one, the columns of its span and their bytes
(R158). -/

namespace Sys2Proof.Machine

/-! ## The parts of an entry -/

/-- The canvas column of a slot's tile column 0 (R158). -/
def SlotEntry.tileLeft (g : SlotEntry) : Int := g.x.toInt + g.tx.toNat

/-- The tile row that a slot shows on a canvas line, where it shows one (R158). -/
def SlotEntry.tileRow (g : SlotEntry) (y : Nat) : Int := (y : Int) - (g.y.toInt + g.ty.toNat)

/-- The first tile column that is neither left of the canvas nor of the slot (R158). -/
def SlotEntry.spanLow (g : SlotEntry) : Nat := (max 0 (max (-g.tileLeft) (g.x.toInt - g.tileLeft))).toNat

/-- The first tile column past the tile, the canvas or the slot (R158). -/
def SlotEntry.spanPast (g : SlotEntry) (tileWidth canvasWidth : Nat) : Nat :=
  (min (tileWidth : Int) (min ((canvasWidth : Int) - g.tileLeft) (g.x.toInt + g.w.toNat - g.tileLeft))).toNat

/-- A line that the slot's tile has a valid row for, within the slot and the canvas (R158). -/
def SlotEntry.Crosses (g : SlotEntry) (y rows height : Nat) : Prop :=
  0 ≤ g.tileRow y ∧ g.tileRow y < rows ∧ g.y.toInt ≤ y ∧ y < height ∧ (y : Int) < g.y.toInt + g.h.toNat

/-- A tile column that lies in the tile, the canvas and the slot (R158). -/
def SlotEntry.InSpan (g : SlotEntry) (tileWidth canvasWidth c : Nat) : Prop :=
  c < tileWidth ∧ 0 ≤ g.tileLeft + c ∧ g.x.toInt ≤ g.tileLeft + c ∧ g.tileLeft + c < canvasWidth ∧
    g.tileLeft + c < g.x.toInt + g.w.toNat

/-- The byte at which the span of a slot's entry begins in picture memory (R138, R158). -/
def SlotEntry.spanStart (g : SlotEntry) (e : TileEntry) (y : Nat) : Nat :=
  e.base.toNat + ((g.tileRow y).toNat * e.width.toNat + g.spanLow) * 4

/-- The entry of a slot that crosses a line (R158). -/
def SlotEntry.entry (g : SlotEntry) (slot : Nat) (t : Byte) (e : TileEntry) (canvasWidth y : Nat) : FetchEntry where
  slot := slot
  tile := t
  row := (g.tileRow y).toNat
  firstColumn := g.spanLow
  lastColumn := g.spanPast e.width.toNat canvasWidth - 1
  canvasColumn := g.tileLeft + g.spanLow
  first := g.spanStart e y
  past := g.spanStart e y + (g.spanPast e.width.toNat canvasWidth - g.spanLow) * 4
  nextBurst := g.spanStart e y / 32

/-- The span's bounds hold exactly the columns in tile, canvas and slot. -/
theorem SlotEntry.inSpan_iff (g : SlotEntry) (tileWidth canvasWidth c : Nat) :
    g.InSpan tileWidth canvasWidth c ↔ g.spanLow ≤ c ∧ c < g.spanPast tileWidth canvasWidth := by
  unfold SlotEntry.InSpan SlotEntry.spanLow SlotEntry.spanPast
  omega

/-- Some column lies in tile, canvas and slot exactly where the span's bounds leave one between them. -/
theorem SlotEntry.exists_inSpan_iff (g : SlotEntry) (tileWidth canvasWidth : Nat) :
    (∃ c, g.InSpan tileWidth canvasWidth c) ↔ g.spanLow < g.spanPast tileWidth canvasWidth := by
  simp only [g.inSpan_iff]
  exact ⟨fun ⟨_, hlow, hpast⟩ => Nat.lt_of_le_of_lt hlow hpast, fun h => ⟨_, Nat.le_refl _, h⟩⟩

/-! ## Whether there is an entry -/

/-- A slot that shows no tile latched READY has no entry (R158). -/
theorem fetchEntry_eq_none_of_not_shown {s : State} {slot : Nat}
    (h : (s.engine.frame.read slot).visible = false ∨ (s.engine.frame.read slot).tile = none ∨
      ∃ t, (s.engine.frame.read slot).tile = some t ∧ s.fetch.tileLatch.read t.toNat = none) (y : Nat) :
    fetchEntry s y slot = none := by
  cases he : fetchEntry s y slot with
  | none => rfl
  | some e =>
    obtain ⟨t, rows, _, _, _, hvisible, htile, hlatch, -⟩ := fetchEntry_span he
    rcases h with h | h | ⟨t', htile', hnot⟩
    · cases h.symm.trans hvisible
    · cases h.symm.trans htile
    · obtain rfl := Option.some.inj (htile'.symm.trans htile)
      cases hnot.symm.trans hlatch

section
variable {s : State} {slot : Nat} {t : Byte} {rows : Nat}
  (hvisible : (s.engine.frame.read slot).visible = true) (htile : (s.engine.frame.read slot).tile = some t)
  (hlatch : s.fetch.tileLatch.read t.toNat = some rows)
include hvisible htile hlatch

/-- A slot that shows a tile latched READY has its entry on a line that it crosses with a column to show (R158). -/
theorem fetchEntry_eq_some {y : Nat} (hcrosses : (s.fetch.slots.read slot).Crosses y rows s.fetch.height)
    (hspan : (s.fetch.slots.read slot).spanLow <
      (s.fetch.slots.read slot).spanPast (s.setup.tiles.read t.toNat).width.toNat s.fetch.width) :
    fetchEntry s y slot =
      some ((s.fetch.slots.read slot).entry slot t (s.setup.tiles.read t.toNat) s.fetch.width y) := by
  simp only [fetchEntry, hvisible, htile, hlatch]
  exact (if_pos hcrosses).trans (if_pos hspan)

/-- On any other line it has none (R158). -/
theorem fetchEntry_eq_none {y : Nat} (h : ¬ ((s.fetch.slots.read slot).Crosses y rows s.fetch.height ∧
      (s.fetch.slots.read slot).spanLow <
        (s.fetch.slots.read slot).spanPast (s.setup.tiles.read t.toNat).width.toNat s.fetch.width)) :
    fetchEntry s y slot = none := by
  simp only [fetchEntry, hvisible, htile, hlatch]
  by_cases hcrosses : (s.fetch.slots.read slot).Crosses y rows s.fetch.height
  · exact (if_pos hcrosses).trans (if_neg fun hspan => h ⟨hcrosses, hspan⟩)
  · exact if_neg hcrosses

end

/-- An entry names its slot (R159). -/
theorem fetchEntry_slot {s : State} {y slot : Nat} {e : FetchEntry} (he : fetchEntry s y slot = some e) :
    e.slot = slot := by
  obtain ⟨t, rows, _, _, _, hvisible, htile, hlatch, -⟩ := fetchEntry_span he
  by_cases h : (s.fetch.slots.read slot).Crosses y rows s.fetch.height ∧
      (s.fetch.slots.read slot).spanLow <
        (s.fetch.slots.read slot).spanPast (s.setup.tiles.read t.toNat).width.toNat s.fetch.width
  · obtain rfl := Option.some.inj ((fetchEntry_eq_some hvisible htile hlatch h.1 h.2).symm.trans he)
    rfl
  · cases (fetchEntry_eq_none hvisible htile hlatch h).symm.trans he

/-! ## What the entry holds -/

section
variable (g : SlotEntry) (slot : Nat) (t : Byte) (e : TileEntry) (width y : Nat)

/-- The columns of an entry are those in tile, canvas and slot (R158). -/
theorem SlotEntry.entry_columns (hspan : g.spanLow < g.spanPast e.width.toNat width) (c : Nat) :
    (g.entry slot t e width y).firstColumn ≤ c ∧ c ≤ (g.entry slot t e width y).lastColumn ↔
      g.InSpan e.width.toNat width c := by
  rw [g.inSpan_iff]
  exact and_congr_right fun _ => Nat.le_sub_one_iff_lt (Nat.zero_lt_of_lt hspan)

/-- An entry's bytes end behind the four of its last column (R138, R158). -/
theorem SlotEntry.entry_past (hspan : g.spanLow < g.spanPast e.width.toNat width) :
    (g.entry slot t e width y).past = e.base.toNat +
      ((g.entry slot t e width y).row * e.width.toNat + (g.entry slot t e width y).lastColumn + 1) * 4 := by
  simp only [SlotEntry.entry, SlotEntry.spanStart]
  omega

end

/-- Settles O45: the span's bounds hold exactly the columns to show, so that there is an entry where they hold one on a
line that the slot crosses. -/
theorem spanRule : Obligations.SpanRule := by
  unfold Obligations.SpanRule
  intro s y slot r
  refine ⟨fun h => fetchEntry_eq_none_of_not_shown h y, ?_⟩
  intro t rows hvisible htile hlatch g e row crosses inSpan
  have hexists : (∃ c, inSpan c) ↔ g.spanLow < g.spanPast e.width.toNat s.fetch.width :=
    g.exists_inSpan_iff e.width.toNat s.fetch.width
  refine ⟨fun h => ?none, fun hcrosses hcolumns => ?some⟩
  case none =>
    refine fetchEntry_eq_none hvisible htile hlatch fun hentry => ?_
    obtain ⟨hcrosses, hspan⟩ := hentry
    exact h.elim (· hcrosses) (not_forall_not.2 (hexists.2 hspan))
  case some =>
    have hspan := hexists.1 hcolumns
    exact ⟨g.entry slot t e s.fetch.width y, fetchEntry_eq_some hvisible htile hlatch hcrosses hspan, rfl, rfl,
      Int.toNat_of_nonneg hcrosses.1, g.entry_columns slot t e _ y hspan, rfl, rfl, g.entry_past slot t e _ y hspan,
      rfl⟩

end Sys2Proof.Machine
end

section
/-! PROOFS. The fetch list within its 24 entries, topmost first, and the window of grants below 16: the Fetch Unit's and
the arbiter's own moves, then every row (R159, R161, R167). -/

namespace Sys2Proof.Machine

open Sys2Proof.Laws.PacketRow (packet)

/-! ## The list of a line (R159) -/

/-- The slots that cross a line are listed highest number first. -/
theorem crossings_topmostFirst (s : State) (y : Nat) : ((crossings s y).map FetchEntry.slot).Pairwise (· > ·) := by
  have descending : slotNumbers.reverse.Pairwise (· > ·) := List.pairwise_reverse.2 List.pairwise_lt_range
  refine List.pairwise_map.2 (List.pairwise_filterMap.2 (descending.imp fun hgt e he e' he' => ?_))
  rw [fetchEntry_slot he, fetchEntry_slot he']
  exact hgt

theorem reset_fetchBounded : FetchBounded State.reset := by
  obtain ⟨-, -, -, -, -, h, -⟩ := resetIsLegal
  exact h

theorem boundaryBlocks_arbiter (source : TimingSource) (s : State) :
    (boundaryBlocks source s).arbiter = s.arbiter := by
  simp [boundaryBlocks, compositorBoundary, engineBoundary, picturesBoundary, stagerBoundary, timeBaseBoundary,
    timingBoundary]

namespace FetchBounded

/-! ## The Fetch Unit and the arbiter alone -/

section
variable {s t : State} (h : FetchBounded s)
include h

/-- The bounds read the Fetch Unit and the arbiter alone. -/
theorem of_eq (hfetch : t.fetch = s.fetch) (harbiter : t.arbiter = s.arbiter) : FetchBounded t := by
  obtain ⟨list, topmostFirst, todo, filling, output, reading, grants, channelGrants⟩ := h
  constructor <;> simpa only [hfetch, harbiter]

theorem setPictures (p : Pictures) : FetchBounded (s.setPictures p) := h.of_eq rfl rfl
theorem setMemory (m : PictureMemory) : FetchBounded (s.setMemory m) := h.of_eq rfl rfl
theorem setCompositor (c : Compositor) : FetchBounded (s.setCompositor c) := h.of_eq rfl rfl
theorem setFresh (n : Nat) : FetchBounded (s.setFresh n) := h.of_eq rfl rfl

theorem setArbiter {a : Arbiter} (hgrants : a.grants ≤ 15) (hchannel : a.channelGrants ≤ a.grants) :
    FetchBounded (s.setArbiter a) := { h with grants := hgrants, channelGrants := hchannel }

/-- A line fetch dropped leaves nothing listed and nothing to read. -/
theorem setFetch_idle {f : Fetch} (hlist : f.list = []) (htodo : f.todo = []) (hfetching : f.fetching = false)
    (hfilling : f.filling = []) (houtput : f.output.length ≤ 24) : FetchBounded (s.setFetch f) where
  list := by simp [hlist]
  topmostFirst := by simp [hlist]
  todo := by simp [htodo]
  filling := by simp [hfilling]
  output := houtput
  reading := by simp [hfetching, htodo]
  grants := h.grants
  channelGrants := h.channelGrants

/-- The fetch of a line lists the topmost 24 of the slots that cross it, or drops what there was (R159, R160). -/
theorem fetchLine (y : Nat) : FetchBounded (fetchLine y s) := by
  rw [fetchLine_eq]
  rcases fetchLine_cases y s with ⟨-, e⟩ | ⟨-, e⟩ <;> rw [e]
  · have room : ((crossings s y).take fetchListBound).length ≤ 24 := List.length_take_le _ _
    exact {
      list := room
      topmostFirst := by
        show (((crossings s y).take fetchListBound).map FetchEntry.slot).Pairwise (· > ·)
        rw [List.map_take]
        exact (crossings_topmostFirst s y).take
      todo := Nat.le_refl _
      filling := (List.length_map ..).trans_le room
      output := h.output
      reading := by simp
      grants := h.grants
      channelGrants := h.channelGrants }
  · exact h.setFetch_idle rfl rfl rfl rfl h.output

/-- A fetch that reads on keeps its list and its stores' entries, and goes on while there is an entry left (R161). -/
theorem readOn {f : Fetch} (hlist : f.list = s.fetch.list) (htodo : f.todo.length ≤ s.fetch.todo.length)
    (hfilling : f.filling.length = s.fetch.filling.length) (houtput : f.output = s.fetch.output)
    (hfetching : f.fetching = !f.todo.isEmpty) : FetchBounded (s.setFetch f) where
  list := by rw [State.setFetch_fetch, hlist]; exact h.list
  topmostFirst := by rw [State.setFetch_fetch, hlist]; exact h.topmostFirst
  todo := by rw [State.setFetch_fetch, hlist]; exact htodo.trans h.todo
  filling := by rw [State.setFetch_fetch, hfilling]; exact h.filling
  output := by rw [State.setFetch_fetch, houtput]; exact h.output
  reading := by simp [hfetching]
  grants := h.grants
  channelGrants := h.channelGrants

/-- A burst taken for the head of the list: the head stays with its next burst, or leaves (R161). -/
theorem takeBurst (hfetching : s.fetch.fetching = true) {e : FetchEntry} {rest : List FetchEntry}
    (htodo : s.fetch.todo = e :: rest) (corrected : Word16) (m : PictureMemory) :
    FetchBounded (s.setFetch (Fetch.takeBurst { s.fetch with corrected := corrected } m e rest)) := by
  rw [Fetch.takeBurst_eq (f := { s.fetch with corrected := corrected }) hfetching]
  refine h.readOn rfl ?_ (List.length_map ..) rfl rfl
  rw [htodo]
  dsimp only
  split
  · exact Nat.le_succ _
  · exact Nat.le_refl _

/-- The entry at the head is abandoned (R165). -/
theorem abandonEntry (hfetching : s.fetch.fetching = true) {e : FetchEntry} {rest : List FetchEntry}
    (htodo : s.fetch.todo = e :: rest) : FetchBounded (s.setFetch (s.fetch.abandonEntry e rest)) := by
  rw [Fetch.abandonEntry_eq hfetching]
  refine h.readOn rfl ?_ rfl rfl rfl
  rw [htodo]
  exact Nat.le_succ _

/-- A list read to its end is not being fetched any more, so LINE_FETCH_COMPLETE finds nothing to do (R161). -/
theorem finishLine_eq : s.fetch.finishLine = s.fetch := by
  unfold Fetch.finishLine
  split
  · rename_i hdone
    have hidle : s.fetch.fetching = false := by simpa [hdone] using h.reading
    rw [← hidle]
  · rfl

/-- A grant is one of the window's, or its last, which closes the window (R167). -/
theorem countGrant (toChannel : Bool) : FetchBounded (s.setArbiter (windowAfter s toChannel)) := by
  have hbefore : (if s.arbiter.grants = 0 then 0 else s.arbiter.channelGrants) ≤ s.arbiter.grants := by
    split
    · exact Nat.zero_le _
    · exact h.channelGrants
  have hone : (if toChannel then 1 else 0) ≤ 1 := by split <;> decide
  unfold windowAfter
  dsimp only
  split
  · exact h.setArbiter (Nat.zero_le _) (Nat.le_refl _)
  · rename_i hroom
    exact h.setArbiter (Nat.le_of_lt_succ (Nat.not_le.1 hroom)) (Nat.add_le_add hbefore hone)

/-- A window in progress is not full, so WINDOW_CLOSE finds nothing to do (R167). -/
theorem close_eq : s.arbiter.close = s.arbiter := if_neg (Nat.not_le.2 (Nat.lt_succ_of_le h.grants))

theorem endDrain (c : LoadChannel) : FetchBounded (endDrain c s) := by
  rw [endDrain_eq]
  exact h.of_eq rfl rfl

/-- A boundary drops the line fetch, empties both stores and begins the fetch of line 0 (R157, R160). -/
theorem frameBoundary (source : TimingSource) : FetchBounded (frameBoundary source s) := by
  rw [frameBoundary_eq_fetchLine]
  have blocks : FetchBounded (boundaryBlocks source s) :=
    h.of_eq (boundaryBlocks_fetch source s) (boundaryBlocks_arbiter source s)
  have latched : FetchBounded (boundaryLatched source s) := blocks.setFetch_idle rfl rfl rfl rfl (Nat.zero_le _)
  exact latched.fetchLine 0

/-- A blanked frame drops its line fetch (R31). -/
theorem blankFrame : FetchBounded (blankFrame s) := by
  unfold Machine.blankFrame
  split
  · exact (h.setCompositor { s.compositor with blanked := true }).setFetch_idle rfl rfl rfl rfl h.output
  · exact h

/-! ## Packets -/

theorem write (payload : List Byte) : FetchBounded (write payload s) := by
  rcases write_cases payload s with ⟨code, e⟩ | ⟨c, -, -, -, hw⟩
  · rw [e]
    exact h.of_eq rfl rfl
  · have entries : FetchBounded (writeEntries c.table
        (chunks c.table.entryBytes (payload.length / c.table.entryBytes) payload) c.index s).1 := by
      refine writeEntries_keeps (P := fun _ u => FetchBounded u) (fun _ index u v hu _ _ => ?_) _ _ _ h
      rcases writeEffect_cases c.table index (u.setSetup v) with ⟨-, e⟩ | ⟨-, e⟩ | ⟨-, -, e⟩ <;> rw [e] <;>
        exact hu.of_eq rfl rfl
    rcases hw with e | ⟨code, e⟩ <;> rw [e] <;> exact entries.of_eq rfl rfl

/-- A soft reset drops the line fetch and the window; a running frame begins its next line's fetch at once (R16,
R169). -/
theorem softResetBlocks : FetchBounded (softResetBlocks s) := by
  have reset : FetchBounded (resetBlocks s) :=
    ((h.setFetch_idle (f := s.fetch.softReset) rfl rfl rfl rfl (Nat.zero_le _)).setArbiter (a := Arbiter.initial)
      (Nat.zero_le _) (Nat.le_refl _)).of_eq rfl rfl
  by_cases hidle : s.compositor.latch = none ∨ s.compositor.blanked = true
  · rw [softResetBlocks_idle hidle]
    exact reset
  · obtain ⟨hlatch, hb⟩ := not_or.1 hidle
    obtain ⟨l, hl⟩ := Option.ne_none_iff_exists'.1 hlatch
    rw [softResetBlocks_running hl (by simpa using hb), cutLine_eq]
    exact ((reset.setCompositor _).setFresh _).fetchLine _

theorem ownerActs (kind : PacketKind) (broadcast : Bool) (payload : List Byte) :
    FetchBounded (ownerActs kind broadcast payload s) := by
  refine ownerActs_keeps broadcast payload h (fun _ _ _ hu => hu.of_eq rfl rfl) ?select (h.write payload) ?query ?stage
    ?sealing (h.of_eq rfl rfl) (h.of_eq rfl rfl) (fun _ => h.of_eq rfl rfl) ?status ?time ?restart ?opening ?data
    ?ending ?abort ?node { h with } h.softResetBlocks kind
  case select => intro t ht; obtain ⟨_, -, rfl⟩ := select_ok ht; exact h.of_eq rfl rfl
  case query => intro t ht; obtain ⟨-, rfl | ⟨_, rfl⟩⟩ := query_ok ht <;> exact h.of_eq rfl rfl
  case stage => intro t ht; obtain ⟨_, -, rfl⟩ := stage_ok ht; exact h.of_eq rfl rfl
  case sealing => intro t ht; obtain ⟨_, -, -, rfl⟩ := sealBatch_ok ht; exact h.of_eq rfl rfl
  case status => intro t ht; obtain ⟨_, -, rfl⟩ := statusNow_ok ht; exact h.of_eq rfl rfl
  case time => intro t ht; obtain ⟨-, rfl⟩ | ⟨-, _, _, -, -, rfl⟩ := setTime_ok ht <;> exact h.of_eq rfl rfl
  case restart => intro t ht; obtain ⟨_, rfl⟩ := groupRestart_ok ht; exact h.of_eq rfl rfl
  case opening => intro t ht; obtain ⟨_, _, _, -, -, -, -, rfl⟩ := loadOpen_ok ht; exact h.of_eq rfl rfl
  case data => intro t ht; obtain ⟨_, -, -, rfl⟩ := loadData_ok ht; exact (h.setPictures _).endDrain _
  case ending => intro t ht; obtain ⟨_, -, rfl⟩ := loadEnd_ok ht; exact (h.setPictures _).endDrain _
  case abort => intro t ht; obtain rfl | ⟨_, -, rfl⟩ := loadAbort_ok ht <;> exact h.of_eq rfl rfl
  case node => intro t ht; obtain ⟨_, -, rfl⟩ := setNode_ok ht; exact h.of_eq rfl rfl

/-! ## Every row -/

theorem grant {check : ReadCheck} (ht : exec (.grant check) s = .next t) : FetchBounded t := by
  rcases execGrant_cases check s with ⟨-, e⟩ | ⟨hgrantee, e⟩ | ⟨c, -, e⟩ <;> rw [e] at ht
  · cases ht
    exact h
  · have hfetching := grantee_fetchUnit hgrantee
    have counted := h.countGrant false
    rcases readBurst_cases check (s.setArbiter (windowAfter s false)) with
      ⟨hnone, e⟩ | ⟨_, _, htodo, ⟨-, e⟩ | ⟨-, ⟨-, e⟩ | ⟨-, e⟩ | ⟨-, e⟩⟩⟩ <;> rw [e] at ht <;> cases ht
    · exact absurd hnone (h.reading.1 hfetching)
    · exact counted.takeBurst hfetching htodo s.fetch.corrected s.memory
    · exact (counted.takeBurst hfetching htodo (bump s.fetch.corrected) s.memory).of_eq rfl rfl
    · exact (counted.abandonEntry hfetching htodo).of_eq rfl rfl
  · have counted := h.countGrant true
    rcases writeBurst_cases c (s.setArbiter (windowAfter s true)) with ⟨-, e⟩ | ⟨_, _, -, ⟨-, e⟩ | ⟨-, e⟩⟩ <;>
      rw [e] at ht <;> cases ht
    · exact counted
    · exact ((counted.setMemory _).setPictures _).endDrain c

/-- The store filled for a line goes into output as it is, and the next line's fetch begins (R160, R162). -/
theorem lineOutputStart {input : List Rgb} (ht : exec (.lineOutputStart input) s = .next t) : FetchBounded t := by
  replace ht : execLineOutputStart input s = .next t := ht
  rcases execLineOutputStart_cases input s with ⟨-, e⟩ | ⟨-, e⟩ | e <;> rw [e] at ht <;> cases ht
  · have started : FetchBounded (startStore s) := h.setFetch_idle rfl rfl rfl rfl h.filling
    rw [composeLine_eq]
    exact (started.setCompositor _).fetchLine _
  · exact h.of_eq rfl rfl
  · exact h

theorem carrierLine {pixels : List Rgb} (ht : exec (.carrierLine pixels) s = .next t) : FetchBounded t :=
  carrierLine_keeps (P := FetchBounded) (fun _ _ hu => hu.of_eq rfl rfl) (fun _ hu => hu.of_eq rfl rfl)
    (fun kind broadcast payload _ hu => hu.ownerActs kind broadcast payload) h ht

/-- A frame begins after the receiver and the timing unit have moved. -/
theorem boundaryAfter (source : TimingSource) (hfetch : t.fetch = s.fetch) (harbiter : t.arbiter = s.arbiter) :
    FetchBounded (Machine.frameBoundary source t) := (h.of_eq hfetch harbiter).frameBoundary source

theorem exec {c : Instr} (ht : exec c s = .next t) : FetchBounded t := by
  cases hp : packet c with
  | some q =>
    obtain ⟨kind, broadcast, payload⟩ := q
    rw [exec_of_packet hp] at ht
    cases ht
    exact h.ownerActs kind broadcast payload
  | none =>
    cases c with
    | powerOn straps => cases ht; exact reset_fetchBounded.of_eq rfl rfl
    | boardReset straps => cases ht; exact reset_fetchBounded.of_eq rfl rfl
    | resetComplete =>
      rcases exec_resetComplete_cases s with e | ⟨-, e⟩ <;> rw [e] at ht <;> cases ht
      · exact h
      · exact h.boundaryAfter _ rfl rfl
    | carrierLine pixels => exact h.carrierLine ht
    | firstActiveLine width =>
      cases ht
      split
      · refine FetchBounded.blankFrame (h.of_eq ?_ ?_) <;> rfl
      · exact h
    | badKind kind => cases ht; exact h.of_eq rfl rfl
    | inputFrameStart a b =>
      rcases exec_inputFrameStart_cases a b s with e | ⟨_, e⟩ | ⟨source, timing, e⟩ <;> rw [e] at ht <;> cases ht
      · exact h
      · exact h.of_eq rfl rfl
      · exact h.boundaryAfter _ rfl rfl
    | inputTimeout =>
      rcases exec_inputTimeout_cases s with e | ⟨-, ⟨-, e⟩ | ⟨-, e⟩⟩ <;> rw [e] at ht <;> cases ht
      · exact h
      · exact h.of_eq rfl rfl
      · exact h.boundaryAfter _ rfl rfl
    | generatorFrameEnd =>
      rcases exec_generatorFrameEnd_cases s with e | ⟨-, source, -, e⟩ <;> rw [e] at ht <;> cases ht
      · exact h
      · exact h.frameBoundary source
    | lineOutputStart input => exact h.lineOutputStart ht
    | grant check => exact h.grant ht
    | lineFetchComplete => cases ht; exact h.of_eq h.finishLine_eq rfl
    | windowClose => cases ht; exact h.of_eq rfl h.close_eq
    | drainEnd channel => cases ht; exact h.endDrain channel
    | stallAbort channel => cases ht; exact h.of_eq rfl rfl
    | completionEvent => cases ht; split <;> exact h.of_eq rfl rfl
    | groupStep g => cases ht; split <;> exact h.of_eq rfl rfl
    | clockAdvance micros => cases ht; exact h.of_eq rfl rfl
    | replyStart readings =>
      replace ht : execReplyStart readings s = .next t := ht
      rcases execReplyStart_cases readings s with e | ⟨_, _, _, _, _, -, -, ⟨-, -, e⟩ | e⟩ <;>
        rw [e] at ht <;> cases ht <;> exact h.of_eq rfl rfl
    | replyTimeout => cases ht; split <;> [split; skip] <;> exact h.of_eq rfl rfl
    | collision => cases ht; split <;> [split; skip] <;> exact h.of_eq rfl rfl
    | replyEnd => cases ht; split <;> [split; skip] <;> exact h.of_eq rfl rfl
    | _ => simp [packet] at hp

end

end FetchBounded

/-- Settles O7: a line's list is cut off at 24 of the slots in descending order, a burst read only shortens what is left
of it, and its store goes into output with the entries it was laid out with; the sixteenth grant closes its window. -/
theorem fetchStaysBounded : Obligations.FetchStaysBounded :=
  step_keeps (fun _ _ h => h.of_eq rfl rfl) fun _ _ _ h he => h.exec he

end Sys2Proof.Machine
end

section
/-! PROOFS. How layers blend, the tile pixel and the glyph pixels of a slot, and what one slot makes of a pixel (R48,
R120, R170 to R178). -/

namespace Sys2Proof.Machine

/-! ## Blending (R172) -/

/-- A channel blended from two channels with an opacity up to 255 is a channel again (R172). -/
theorem blendChannel_lt {a p b : Nat} (ha : a ≤ 255) (hp : p < 256) (hb : b < 256) : blendChannel a p b < 256 := by
  have above : a * p ≤ a * 255 := Nat.mul_le_mul_left a (by omega)
  have beneath : (255 - a) * b ≤ (255 - a) * 255 := Nat.mul_le_mul_left (255 - a) (by omega)
  unfold blendChannel
  omega

theorem blendChannel_full (p b : Nat) : blendChannel 255 p b = p := by
  simp only [blendChannel, Nat.sub_self]
  omega

theorem blendChannel_zero (p b : Nat) : blendChannel 0 p b = b := by
  simp only [blendChannel, Nat.sub_zero]
  omega

/-- No channel of a blend is cut off (R172). -/
theorem blend_toNat {a : Nat} (ha : a ≤ 255) (p b : Rgb) :
    (blend a p b).red.toNat = blendChannel a p.red.toNat b.red.toNat ∧
    (blend a p b).green.toNat = blendChannel a p.green.toNat b.green.toNat ∧
    (blend a p b).blue.toNat = blendChannel a p.blue.toNat b.blue.toNat :=
  have fits (u v : Byte) : blendChannel a u.toNat v.toNat < 256 := blendChannel_lt ha u.isLt v.isLt
  ⟨toNat_ofNat_byte (fits _ _), toNat_ofNat_byte (fits _ _), toNat_ofNat_byte (fits _ _)⟩

/-- Full opacity replaces (R172). -/
theorem blend_full (p b : Rgb) : blend 255 p b = p := by
  simp only [blend, blendChannel_full, BitVec.ofNat_toNat, BitVec.setWidth_eq]

/-- No opacity leaves (R172). -/
theorem blend_zero (p b : Rgb) : blend 0 p b = b := by
  simp only [blend, blendChannel_zero, BitVec.ofNat_toNat, BitVec.setWidth_eq]

/-! ## Treatments (R175) -/

theorem dimChannel_toNat (d t : Byte) : (dimChannel d t).toNat = (t.toNat * d.toNat + 127) / 255 := by
  have product : t.toNat * d.toNat ≤ 255 * 255 :=
    Nat.mul_le_mul (Nat.le_of_lt_succ t.isLt) (Nat.le_of_lt_succ d.isLt)
  exact toNat_ofNat_byte (by omega)

/-- The three weights sum to 256, so that a grey is a channel (R175). -/
theorem greyOf_toNat (t : Rgb) :
    (greyOf t).toNat = (77 * t.red.toNat + 150 * t.green.toNat + 29 * t.blue.toNat + 128) / 256 := by
  have hred := t.red.isLt
  have hgreen := t.green.isLt
  have hblue := t.blue.isLt
  exact toNat_ofNat_byte (by omega)

theorem blendRule : Claims.BlendRule :=
  ⟨fun _ p b ha => blend_toNat ha p b, fun p b => ⟨blend_full p b, blend_zero p b⟩, fun d _ t =>
    ⟨dimChannel_toNat d _, dimChannel_toNat d _, dimChannel_toNat d _, greyOf_toNat t, rfl, rfl, rfl⟩⟩

/-! ## The tile pixel (R173) -/

section
variable {store before : List StoreEntry} {slot : Nat}

/-- A store without a complete entry of a slot has no tile pixel for it (R173). -/
theorem storePixel_eq_none (h : ∀ e ∈ store, e.slot = slot → e.complete = false) (x : Nat) :
    storePixel store slot x = none := by
  have unfound : (store.find? fun e => e.slot == slot && e.complete) = none :=
    List.find?_eq_none.2 fun e he => by simpa using h e he
  rw [storePixel, unfound]

/-- A slot's tile pixels are those of its first complete entry (R173). -/
theorem storePixel_eq {e : StoreEntry} (hcomplete : e.complete = true)
    (hbefore : ∀ b ∈ before, b.slot = e.slot → b.complete = false) (behind : List StoreEntry) (x : Nat) :
    storePixel (before ++ e :: behind) e.slot x =
      if e.canvasColumn ≤ x then e.words[((x : Int) - e.canvasColumn).toNat]? else none := by
  have found : ((before ++ e :: behind).find? fun b => b.slot == e.slot && b.complete) = some e :=
    List.find?_eq_some_iff_append.2
      ⟨by simp [hcomplete], before, behind, rfl, fun b hb => by simpa using imp_iff_not_or.1 (hbefore b hb)⟩
  rw [storePixel, found]

end

theorem storeRule : Claims.StoreRule := by
  unfold Claims.StoreRule
  intro before behind e x hcomplete hbefore
  refine ⟨fun k hk => ?_, fun hleft => ?_⟩
  · have place : ((x : Int) - e.canvasColumn).toNat = k := by omega
    rw [storePixel_eq hcomplete hbefore, if_pos (by omega), place]
  · rw [storePixel_eq hcomplete hbefore, if_neg (by omega)]

/-! ## The glyphs (R48, R177, R178) -/

/-- A coverage is a nibble of its mask byte (R48). -/
theorem coverage_le (glyphs : Table (0 : Byte)) (font code column row : Nat) :
    coverage glyphs font code column row ≤ 15 := by
  have hmask := (glyphs.read (glyphIndex font (code * 3072 + row * 32 + column / 2))).isLt
  simp only [coverage]
  split <;> omega

section
variable (glyphs : Table (0 : Byte)) (v : FontView) (colour : Rgb) (x y top : Int)

/-- The glyphs of a run are drawn one after the other, each from the edge that the advances before it leave (R177). -/
theorem drawGlyphs_append (run more : List Nat) (left : Int) (p : Rgb) :
    drawGlyphs glyphs v colour x y top (run ++ more) left p =
      drawGlyphs glyphs v colour x y top more (left + ((run.map v.advance).sum : Nat))
        (drawGlyphs glyphs v colour x y top run left p) := by
  induction run generalizing left p with
  | nil => simp [drawGlyphs]
  | cons c rest ih =>
    simp only [List.cons_append, drawGlyphs, ih, List.map_cons, List.sum_cons, Nat.cast_add, add_assoc]

/-- One glyph is its cell, blended with 17 times the coverage (R177, R178). -/
theorem drawGlyphs_singleton (c : Nat) (left : Int) (p : Rgb) :
    drawGlyphs glyphs v colour x y top [c] left p =
      if left ≤ x ∧ x < left + v.width c ∧ top ≤ y ∧ y < top + v.height then
        blend (17 * coverage glyphs v.font c (x - left).toNat (y - top).toNat) colour p
      else p := rfl

end

section
variable (d : DrawingSet) (slot x y : Nat) (p : Rgb)

/-- A slot's glyphs, once a snapshot stands, are its run drawn from the place of its first glyph (R120, R177). -/
theorem DrawingSet.glyphs_eq {snap : Snapshot} (h : d.snapshot = some snap) :
    d.glyphs slot x y p = drawGlyphs d.setup.glyphs
      ⟨(snap.fontHeights.read (d.slots.read slot).font.val).toNat, snap.metrics, (d.slots.read slot).font.val⟩
      (d.slots.read slot).priceColour x y
      ((d.slots.read slot).y.toInt + (d.slots.read slot).py.toNat + (d.frame.read slot).yOffset)
      (d.frame.read slot).run
      ((d.slots.read slot).x.toInt + (d.slots.read slot).px.toNat + (d.frame.read slot).xOffset) p := by
  rw [DrawingSet.glyphs, h]

/-- A slot without a run draws no glyph, whatever the snapshot. -/
theorem DrawingSet.glyphs_empty (h : (d.frame.read slot).run = []) : d.glyphs slot x y p = p := by
  cases hsnapshot : d.snapshot with
  | none => rw [DrawingSet.glyphs, hsnapshot]
  | some snap =>
    rw [d.glyphs_eq slot x y p hsnapshot, h]
    rfl

end

theorem glyphPlace : Claims.GlyphPlace := by
  unfold Claims.GlyphPlace
  refine ⟨fun _ _ _ => rfl, fun d snap slot x y p hsnapshot => ?place, fun _ _ _ _ _ _ _ _ => rfl,
    fun glyphs font code column row _ _ => ?masks⟩
  case place =>
    have drawn := d.glyphs_eq slot x y p hsnapshot
    refine ⟨fun c hrun => ?_, drawn⟩
    rw [drawn, hrun]
    exact drawGlyphs_singleton ..
  case masks =>
    have index : glyphIndex font (code * 3072 + row * 32 + column / 2) =
        font * 76800 + code * 3072 + row * 32 + column / 2 := by
      unfold glyphIndex
      omega
    refine ⟨fun heven => ?_, fun hodd => ?_, coverage_le ..⟩
    · simp only [coverage, index, if_pos heven]
    · simp only [coverage, index, if_neg (show ¬ column % 2 = 0 by omega)]

/-! ## One slot's layers (R171, R173, R174, R176) -/

/-- A slot covers the pixels of its latched rectangle (R171). -/
theorem covers_iff {e : SlotEntry} {x y : Nat} : covers e x y = true ↔
    e.x.toInt ≤ x ∧ (x : Int) < e.x.toInt + e.w.toNat ∧ e.y.toInt ≤ y ∧ (y : Int) < e.y.toInt + e.h.toNat := by
  simp only [covers, Bool.and_eq_true, decide_eq_true_eq, and_assoc]

/-- A tile pixel is opaque but where its tile is keyed by its alpha (R174). -/
theorem tileOpacity_eq (k : KeyMode) (w : Rgba) : tileOpacity k w = if k = .alpha then w.alpha.toNat else 255 := by
  cases k <;> rfl

/-- Where a slot shows a tile, its own layer is the tile pixel, treated and keyed (R174, R175). -/
theorem slotLayer_tile (setup : Setup) (e : SlotEntry) {r : RenderRecord} {t : Byte} (ht : r.tile = some t) (w : Rgba)
    (under : Rgb) : slotLayer setup e r (some w) under =
      blend (if (setup.tiles.read t.toNat).keyMode = .alpha then w.alpha.toNat else 255)
        (treatColour r.applied e.d ⟨w.red, w.green, w.blue⟩) under := by
  simp only [slotLayer, ht, tileOpacity_eq]

/-- Where it has no tile pixel, its own layer is the fill (R176). -/
theorem slotLayer_fill (setup : Setup) (e : SlotEntry) {r : RenderRecord} {pixel : Option Rgba}
    (h : pixel = none ∨ r.tile = none) (under : Rgb) :
    slotLayer setup e r pixel under = blend e.fillAlpha.toNat e.fillColour under := by
  rcases h with rfl | htile
  · rfl
  · cases pixel with
    | none => rfl
    | some w => simp only [slotLayer, htile]

section
variable {d : DrawingSet} {x y slot : Nat}

/-- A slot that is not visible or not there leaves a pixel (R171). -/
theorem DrawingSet.slot_of_not_shown
    (h : (d.frame.read slot).visible = false ∨ covers (d.slots.read slot) x y = false) (under : Rgb) :
    d.slot x y under slot = under :=
  if_neg fun ⟨hvisible, hcovers⟩ => h.elim (Bool.eq_false_iff.1 · hvisible) (Bool.eq_false_iff.1 · hcovers)

/-- A visible slot draws its own layer and its glyphs over a pixel it covers (R171). -/
theorem DrawingSet.slot_of_shown (hvisible : (d.frame.read slot).visible = true)
    (hcovers : covers (d.slots.read slot) x y = true) (under : Rgb) :
    d.slot x y under slot = d.glyphs slot x y
      (slotLayer d.setup (d.slots.read slot) (d.frame.read slot) (storePixel d.store slot x) under) :=
  if_pos ⟨hvisible, hcovers⟩

end

theorem slotRule : Claims.SlotRule := by
  unfold Claims.SlotRule
  refine ⟨fun d x y slot under => ?layers, fun store slot x h => storePixel_eq_none h x,
    fun d slot x y p h => d.glyphs_empty slot x y p h,
    fun glyphs v colour p x y top left run c => drawGlyphs_append glyphs v colour x y top run [c] left p⟩
  case layers =>
    intro e r covered
    refine ⟨fun h => ?_, fun hvisible hcovered => ?_⟩
    · exact DrawingSet.slot_of_not_shown (h.imp_right fun hout => Bool.eq_false_iff.2 (hout ∘ covers_iff.1)) under
    · have drawn := DrawingSet.slot_of_shown hvisible (covers_iff.2 hcovered) under
      refine ⟨fun w t hw ht => ?_, fun hfill => ?_⟩
      · rw [drawn, hw, slotLayer_tile _ _ ht]
      · rw [drawn, slotLayer_fill _ _ hfill]

/-- Settles O49: a blend is a channel again; the first complete entry is the one found; a run is drawn glyph by glyph;
and a slot's own layer is its tile pixel or its fill, with the glyphs over it. -/
theorem pixelLayers : Obligations.PixelLayers := ⟨blendRule, storeRule, glyphPlace, slotRule⟩

end Sys2Proof.Machine
end

section
/-! PROOFS. The reply on the status line: the readings it waits for, its start, the line it drives, and its endings
(R184 to R186, R189). -/

namespace Sys2Proof.Machine

/-! ## The quiet count (R184) -/

/-- What readings make of a quiet count when none of them stops it: the highs at their end, on top of the count where
none is low (R184). -/
def runOfHighs (quiet : Nat) (l : List Bool) : Nat :=
  if false ∈ l then (l.reverse.takeWhile id).length else quiet + l.length

@[simp] theorem runOfHighs_nil (quiet : Nat) : runOfHighs quiet [] = quiet := rfl

/-- Behind a low reading, the highs at the end of a list are those of the part after it. -/
theorem takeWhile_reverse_cons {l : List Bool} (h : false ∈ l) (b : Bool) :
    (b :: l).reverse.takeWhile id = l.reverse.takeWhile id := by
  rw [List.reverse_cons, List.takeWhile_append, if_neg]
  intro hall
  have hhigh : ∀ x ∈ l.reverse, id x = true := List.takeWhile_eq_self_iff.1 <|
    (List.takeWhile_prefix id).eq_of_length hall
  exact absurd (hhigh false (List.mem_reverse.2 h)) (by decide)

theorem takeWhile_reverse_of_high {l : List Bool} (h : false ∉ l) : l.reverse.takeWhile id = l.reverse :=
  List.takeWhile_eq_self_iff.2 fun b hb => by
    cases b with
    | true => rfl
    | false => exact absurd (List.mem_reverse.1 hb) h

/-- A high reading adds one to the quiet count and a low one sets it to 0, before the readings after it (R184). -/
theorem runOfHighs_cons (quiet : Nat) (b : Bool) (l : List Bool) :
    runOfHighs quiet (b :: l) = runOfHighs (if b then quiet + 1 else 0) l := by
  unfold runOfHighs
  by_cases hlow : false ∈ l
  · rw [if_pos (List.mem_cons_of_mem b hlow), if_pos hlow, takeWhile_reverse_cons hlow]
  · rw [if_neg hlow]
    cases b with
    | true =>
      rw [if_neg (by simpa using hlow), if_pos rfl, List.length_cons]
      omega
    | false =>
      rw [if_pos List.mem_cons_self, List.reverse_cons, List.takeWhile_append, takeWhile_reverse_of_high hlow]
      simp

theorem countQuiet_cons {quiet : Nat} (h : quiet < 20) (b : Bool) (l : List Bool) :
    countQuiet quiet (b :: l) = countQuiet (if b then quiet + 1 else 0) l := if_neg (Nat.not_le.2 h)

/-- At 20 the line is idle, and further readings leave the count (R184). -/
theorem countQuiet_idle {quiet : Nat} (h : 20 ≤ quiet) (l : List Bool) : countQuiet quiet l = quiet := by
  cases l with
  | nil => rfl
  | cons b l => exact if_pos h

/-- Readings that never bring the count to 20 are all counted (R184). -/
theorem countQuiet_of_below {quiet : Nat} {l : List Bool} (h : ∀ k ≤ l.length, runOfHighs quiet (l.take k) < 20) :
    countQuiet quiet l = runOfHighs quiet l := by
  induction l generalizing quiet with
  | nil => rfl
  | cons b l ih =>
    have hbelow : quiet < 20 := h 0 (Nat.zero_le _)
    rw [countQuiet_cons hbelow, runOfHighs_cons]
    refine ih fun k hk => ?_
    rw [← runOfHighs_cons, ← List.take_succ_cons]
    exact h (k + 1) (Nat.succ_le_succ hk)

/-- Once some of the readings have brought the count to 20 it stands there (R184). -/
theorem countQuiet_of_reached {quiet k : Nat} {l : List Bool} (hquiet : quiet ≤ 20)
    (h : 20 ≤ runOfHighs quiet (l.take k)) : countQuiet quiet l = 20 := by
  rcases hquiet.eq_or_lt with rfl | hbelow
  · exact countQuiet_idle le_rfl l
  induction l generalizing quiet k with
  | nil =>
    rw [List.take_nil, runOfHighs_nil] at h
    omega
  | cons b l ih =>
    cases k with
    | zero =>
      rw [List.take_zero, runOfHighs_nil] at h
      omega
    | succ k =>
      rw [List.take_succ_cons, runOfHighs_cons] at h
      rw [countQuiet_cons hbelow]
      have hnext : (if b then quiet + 1 else 0) ≤ 20 := by split <;> omega
      rcases hnext.eq_or_lt with heq | hlt
      · rw [heq, countQuiet_idle le_rfl]
      · exact ih hnext h hlt

/-! ## REPLY_START (R184, R185, R189) -/

theorem exec_replyStart_inReset {s : State} (h : s.timing.inReset = true) (readings : List Bool) :
    exec (.replyStart readings) s = .next s := by
  show execReplyStart readings s = _
  rw [execReplyStart, if_pos h]

theorem exec_replyStart_notWaiting {s : State} (h : ∀ n c d q r, s.port.reply ≠ .waiting n c d q r)
    (readings : List Bool) : exec (.replyStart readings) s = .next s := by
  show execReplyStart readings s = _
  rcases execReplyStart_cases readings s with e | ⟨n, c, d, q, r, -, hwaiting, -⟩
  · exact e
  · exact absurd hwaiting (h n c d q r)

section
variable {s : State} {node : Fin 8} {content : ReplyContent} {deadline quiet readAt : Nat}

/-- The readings due decide what REPLY_START does of a reply that waits (R184). -/
theorem exec_replyStart_waiting (hreset : s.timing.inReset = false)
    (hwaiting : s.port.reply = .waiting node content deadline quiet readAt) (readings : List Bool) :
    exec (.replyStart readings) s = .next (
      if 20 ≤ countQuiet quiet (readingsDue s readAt readings) ∧ s.now ≤ deadline then startReply node content s
      else { s with port := { s.port with
        reply := .waiting node content deadline (countQuiet quiet (readingsDue s readAt readings))
          (readAt + 2 * (readingsDue s readAt readings).length) } }) := by
  show execReplyStart readings s = _
  rw [execReplyStart, if_neg (by rw [hreset]; decide), countReadings, hwaiting]
  rfl

/-- Readings beyond the bit times that have passed are not read (R184). -/
theorem exec_replyStart_due (hreset : s.timing.inReset = false)
    (hwaiting : s.port.reply = .waiting node content deadline quiet readAt) (readings : List Bool) :
    exec (.replyStart readings) s = exec (.replyStart (readingsDue s readAt readings)) s := by
  have once : readingsDue s readAt (readingsDue s readAt readings) = readingsDue s readAt readings := by
    rw [readingsDue, readingsDue, List.take_take, Nat.min_self]
  rw [exec_replyStart_waiting hreset hwaiting, exec_replyStart_waiting hreset hwaiting, once]

end

theorem replyStartOutcome : Claims.ReplyStartOutcome := by
  refine ⟨fun readings s h => exec_replyStart_inReset h readings, fun readings s h =>
    exec_replyStart_notWaiting h readings, ?_⟩
  intro s node content deadline quiet readAt hreset hwaiting hquiet readings due count
  have hexec := exec_replyStart_waiting hreset hwaiting readings
  refine ⟨exec_replyStart_due hreset hwaiting readings, fun hbelow => ?counting, fun k _ hreached => ?idle⟩
  case counting =>
    have hcount : countQuiet quiet (readingsDue s readAt readings) = count due := countQuiet_of_below hbelow
    have hlow : count due < 20 := by simpa using hbelow due.length le_rfl
    rw [hexec, hcount, if_neg fun h => Nat.not_le.2 hlow h.1]
    rfl
  case idle =>
    have hcount : countQuiet quiet (readingsDue s readAt readings) = 20 := countQuiet_of_reached hquiet hreached
    rw [hexec, hcount]
    refine ⟨fun hnow => ?_, fun hlate => ?_⟩
    · rw [if_pos ⟨le_rfl, hnow⟩]
      rcases content with - | ⟨- | table, first, n⟩ <;> rfl
    · rw [if_neg fun h => Nat.not_le.2 hlate h.2]
      rfl

/-! ## The line (R185, R189) -/

theorem lineIsDriven : Claims.LineIsDriven := by
  intro s
  unfold drivesLow
  cases s.port.reply with
  | idle => simp
  | waiting => simp
  | sending frame startedAt => simp [sendingBit]

/-! ## The endings (R184 to R186) -/

section
variable {s : State}

theorem exec_replyTimeout_waiting {node : Fin 8} {content : ReplyContent} {deadline quiet readAt : Nat}
    (h : s.port.reply = .waiting node content deadline quiet readAt) :
    exec .replyTimeout s = .next (if deadline ≤ s.now then { s with
      port := { s.port with reply := .idle, replyTimeouts := bump s.port.replyTimeouts } } else s) := by
  show execReplyTimeout s = _
  rw [execReplyTimeout, h]
  rfl

/-- Only a reply that waits times out (R184). -/
theorem exec_replyTimeout_notWaiting (h : ∀ n c d q r, s.port.reply ≠ .waiting n c d q r) :
    exec .replyTimeout s = .next s := by
  show execReplyTimeout s = _
  unfold execReplyTimeout
  split
  · rename_i hwaiting
    exact absurd hwaiting (h _ _ _ _ _)
  · rfl

theorem exec_collision_sending {frame : List Byte} {startedAt : Nat} (h : s.port.reply = .sending frame startedAt) :
    exec .collision s = .next (if sendingBit frame startedAt s.now = some true then { s with
      port := { s.port with reply := .idle, collisions := bump s.port.collisions } } else s) := by
  show execCollision s = _
  rw [execCollision, h]
  rfl

theorem exec_replyEnd_sending {frame : List Byte} {startedAt : Nat} (h : s.port.reply = .sending frame startedAt) :
    exec .replyEnd s = .next (if startedAt + 20 * frame.length ≤ s.now then { s with
      port := { s.port with reply := .idle } } else s) := by
  show execReplyEnd s = _
  rw [execReplyEnd, h]
  rfl

/-- Only a reply being sent collides or comes to its end (R185, R186). -/
theorem exec_notSending (h : ∀ frame startedAt, s.port.reply ≠ .sending frame startedAt) :
    exec .collision s = .next s ∧ exec .replyEnd s = .next s := by
  show execCollision s = _ ∧ execReplyEnd s = _
  unfold execCollision execReplyEnd
  split
  · rename_i hsending
    exact absurd hsending (h _ _)
  · exact ⟨rfl, rfl⟩

end

theorem replyEndings : Claims.ReplyEndings := by
  refine ⟨fun s hidle => ?idle, fun s node content deadline quiet readAt hwaiting => ?waiting,
    fun s frame startedAt hsending => ?sending⟩
  case idle =>
    exact ⟨exec_replyTimeout_notWaiting (by simp [hidle]), exec_notSending (by simp [hidle])⟩
  case waiting =>
    refine ⟨fun hdue => ?_, fun hearly => ?_, exec_notSending (by simp [hwaiting])⟩
    · rw [exec_replyTimeout_waiting hwaiting, if_pos hdue]
    · rw [exec_replyTimeout_waiting hwaiting, if_neg (Nat.not_le.2 hearly)]
  case sending =>
    intro sent
    refine ⟨fun hone => ?_, fun hother => ?_, fun hover => ?_, fun hearly => ?_,
      exec_replyTimeout_notWaiting (by simp [hsending])⟩
    · exact (exec_collision_sending hsending).trans (congrArg _ (if_pos hone))
    · exact (exec_collision_sending hsending).trans (congrArg _ (if_neg hother))
    · rw [exec_replyEnd_sending hsending, if_pos hover]
    · rw [exec_replyEnd_sending hsending, if_neg (Nat.not_le.2 hearly)]

/-- Settles O57: the quiet count stops at 20 and else is the run of highs; the line is low in a 0 bit of the frame being
sent; each ending acts on its own reply state alone. -/
theorem replyLife : Obligations.ReplyLife := ⟨replyStartOutcome, lineIsDriven, replyEndings⟩

end Sys2Proof.Machine
end

section
/-! PROOFS. Counters and refusals, BAD_KIND and CLEAR_COUNTERS (R12, R14, R15, R188). -/

namespace Sys2Proof.Machine

theorem bumpBy_toNat (c : Word16) (n : Nat) : (bumpBy c n).toNat = min 65535 (c.toNat + n) :=
  Nat.mod_eq_of_lt (Nat.lt_succ_of_le (Nat.min_le_left _ _))

theorem countersSaturate : Claims.CountersSaturate := ⟨bump_toNat, bumpBy_toNat⟩

theorem exec_badKind (code : Byte) (s : State) :
    exec (.badKind code) s = .next (refuseKind .badKind code s) := rfl

theorem refuseKind_eq (code : RefusalCode) (kind : Byte) (s : State) : refuseKind code kind s = { s with
    receiver := { s.receiver with refusals := bump s.receiver.refusals, lastRefusal := some (code, kind) } } := rfl

theorem refusalIsRecorded : Claims.RefusalIsRecorded :=
  ⟨fun code kind s => refuseKind_eq code kind.code s, fun code s =>
    (exec_badKind code s).trans (congrArg _ (refuseKind_eq .badKind code s))⟩

theorem exec_clearCounters (payload : List Byte) (s : State) : exec (.clearCounters payload) s =
    .next (settle .clearCounters s (needsEmpty payload (clearAllCounters s))) := rfl

/-- Each block clears its own counters, and nothing else of the part changes (R188). -/
theorem clearAllCounters_eq (s : State) : clearAllCounters s = { s with
    receiver := s.receiver.clearCounters
    fetch := s.fetch.clearCounters
    pictures := s.pictures.clearCounters
    port := s.port.clearCounters } := rfl

theorem clearCountersOutcome : Claims.ClearCountersOutcome := by
  refine ⟨fun payload s hbytes => ?_, fun s => ?_⟩
  · rw [exec_clearCounters, needsEmpty_bytes hbytes, settle_error]
  · rw [exec_clearCounters, needsEmpty_nil, settle_ok, clearAllCounters_eq]
    rfl

/-- Settles O17: the counters by their arithmetic, a refusal and a BAD_KIND by the one record they make, CLEAR_COUNTERS
block by block. -/
theorem countersAndRefusals : Obligations.CountersAndRefusals :=
  ⟨countersSaturate, refusalIsRecorded, clearCountersOutcome⟩

end Sys2Proof.Machine
end

section
/-! PROOFS. One step of the part, by what waits in its queue. -/

namespace Sys2Proof.Machine

theorem step_of_pending_cons {c : Instr} {rest : List Instr} {s : State} (h : s.pending = c :: rest) :
    step s = exec c (s.setPending rest) := by
  simp only [step, h]

theorem step_of_pending_nil {s : State} (h : s.pending = []) : step s = .next s := by
  simp only [step, h]

/-- Settles O1, by the two shapes of the queue. -/
theorem stepTakesFront : Obligations.StepTakesFront :=
  ⟨fun _ _ _ => step_of_pending_cons, fun _ => step_of_pending_nil⟩

end Sys2Proof.Machine
end
